-- ==== Sys2Proof/Word.lean ====
section
/-!
DEFINITION. The word types of the DXS-4128 model and the plainest arithmetic on them (R8 to R12).
-/
namespace Sys2Proof

/-- Eight bits (R36, R321). -/
abbrev Byte := BitVec 8

/-- The index of a region: 0 is A, 1 is B (R3). -/
abbrev RegionIx := Fin 2

/-- The index of a block (R4). -/
abbrev BlockIx := Fin 8

/-- The number of a cell, which is its pin's number (R5, R6). -/
abbrev CellIx := Fin 128

/-- A DDR5 channel: 0 is A0, 1 is A1, 2 is B0, 3 is B1 (R253). -/
abbrev DramIx := Fin 4

/-- A Waggle channel (R281). -/
abbrev WaggleIx := Fin 64

/-- A Ryuwister context: chip, region A, region B, service (R297). -/
abbrev CtxIx := Fin 4

/-- A Thenko port: 0 is THK0, 1 is THK1 (R341). -/
abbrev PortIx := Fin 2

/-- A count that stops at a limit. -/
def satAdd (limit a b : Nat) : Nat := min limit (a + b)

/-- The largest value of an unsigned field of `w` bits. -/
def maxU (w : Nat) : Nat := 2 ^ w - 1

/-- The two's complement reading of the low `w` bits of `v` (R12). -/
def signed (w v : Nat) : Int := (BitVec.ofNat w v).toInt

/-- The `w`-bit pattern of an integer, as an unsigned number (R12). -/
def unsigned (w : Nat) (i : Int) : Nat := (BitVec.ofInt w i).toNat

/-- Bits `[lo + w - 1 : lo]` of a number (R12). -/
def field (v lo w : Nat) : Nat := v / 2 ^ lo % 2 ^ w

/-- One bit of a number. -/
def bitAt (v i : Nat) : Bool := v.testBit i

/-- A flag as the bit it is reported as. -/
def b2n (b : Bool) : Nat := if b then 1 else 0

/-- The nearest whole number to `n / d`, halves to even. -/
def roundEven (n : Int) (d : Nat) : Int :=
  let q := n / d
  let r := n % d
  if 2 * r < d then q else if d < 2 * r then q + 1 else if q % 2 = 0 then q else q + 1

/-- The whole square root of a number below 2^256: bits are tried from the top. -/
def isqrt (n : Nat) : Nat :=
  (List.range 128).foldl (fun r i => if (r + 2 ^ (127 - i)) ^ 2 ≤ n then r + 2 ^ (127 - i) else r) 0

/-- The whole number nearest to the square root of `num / den`, halves to even. -/
def roundSqrt (num den : Nat) : Nat :=
  let q := isqrt (4 * num / den)
  if q % 4 = 1 ∧ q * q * den = 4 * num then q / 2 else (q + 1) / 2

end Sys2Proof
end

