-- ==== Sys2Proof/Syntax.lean ====
section
/-!
DEFINITION. The commands of the DXS-4128 block: one constructor per row of spec/opcode_table.json, in the table's order,
and the types of their operands. The table gives no operands, so the operands are the model's (log entry 1): who sends
(a Thenko frame header), what a register write carries, and what the world outside the package measures or decides.
-/
namespace Sys2Proof

/-- The destination MAC address of a received frame (R319). -/
inductive MacDst where
  /-- The port's own address. -/
  | own
  | broadcast
  /-- The PTP multicast address 01-1B-19-00-00-00. -/
  | ptp
  | other
  deriving DecidableEq, Repr

/-- The part of a Thenko frame that every host message has (R317, R319, R320, R325, R423). -/
structure Hdr where
  port : PortIx
  /-- Session number, 16 bits. -/
  session : Nat
  /-- Sequence, 32 bits (R325). -/
  seq : Nat
  /-- NodeAddress field, 18 bits (R324). -/
  node : Nat
  /-- Credits granted to the part's ReadBlock by this frame (R329). -/
  credits : Nat
  /-- Flags.Secure (R423). -/
  secure : Bool
  /-- The first 16 bytes of the trailer are right (R423); the frame's bytes are not held, their check is. -/
  trailerOk : Bool
  /-- Its destination MAC address (R319). -/
  dst : MacDst := .own
  /-- Its IEEE 802.1Q tag, 16 bits (R317). -/
  tag : Option Nat := none
  /-- Its FCS is correct (R319). -/
  fcsOk : Bool := true
  /-- It holds the header and the PayloadLength that it states (R319). -/
  whole : Bool := true
  deriving DecidableEq, Repr

/-- A frame as a port receives it (R317, R319, R320): its addresses, its 802.1Q tags, its EtherType, and the bytes between that and the
FCS. -/
structure Frame where
  port : PortIx
  dst : MacDst
  tags : List Nat
  etherType : Nat
  fcsOk : Bool
  bytes : List Byte
  deriving DecidableEq, Repr

/-- The modes that auto-negotiation finds the link partner to offer (R317). -/
structure LinkOffer where
  kx1g : Bool
  kr10g : Bool
  kr25g : Bool
  deriving DecidableEq, Repr

/-- The FEC that Clause 73 settles on, where the mode may have it (R317). -/
structure FecOffer where
  rsFec : Bool
  baseR : Bool
  deriving DecidableEq, Repr

/-- What a Write carries: its Length in bytes and the bytes as one little-endian number (R321, R357). -/
structure Data where
  len : Nat
  val : Nat
  deriving DecidableEq, Repr

/-- A Sentinel: of a cell's ball, or rail k of a pin die (R230, R239). -/
inductive MonId where
  | cell (c : CellIx)
  | rail (r : RegionIx) (k : Fin 4)
  deriving DecidableEq, Repr

/-- A collector (R391). -/
inductive ColId where
  | chip
  | region (r : RegionIx)
  | block (b : BlockIx)
  | cell (c : CellIx)
  deriving DecidableEq, Repr

/-- Errors that strike one burst read: the bits that read inverted (R252, R254, R256). -/
structure ErrPat where
  data : BitVec 512
  chk : BitVec 64
  tag : BitVec 64
  deriving DecidableEq, Repr

/-- Errors that strike one entry of the Comb as it is read: the bits that read inverted (R72, R252). -/
structure CombErr where
  data : BitVec 256
  chk : BitVec 32
  deriving DecidableEq, Repr

/-- Errors that strike a record as it waits in a fail FIFO: its place, the oldest 0, and the bits that turn over (R142). -/
structure FifoErr where
  place : Nat
  data : BitVec 192
  chk : BitVec 24
  deriving DecidableEq, Repr

/-- Errors that strike the reads of one burst by admission, the first read and the second (R92, R256). -/
structure ReadErr where
  region : RegionIx
  burst : Nat
  first : ErrPat
  second : ErrPat
  deriving DecidableEq, Repr

/-- The end of an admission: its region, and the errors that struck its reads (R92). -/
structure AdmissionEnd where
  region : RegionIx
  errs : List ReadErr
  deriving DecidableEq, Repr

/-- Bits of a stored log entry that an error inverts: its slot, its data and its check bits (R253, R410). -/
structure SlotErr where
  slot : Fin 2048
  word : BitVec 128
  chk : BitVec 16
  deriving DecidableEq, Repr

/-- The next frame of a session's ReadBlock, and the errors that have struck entries of the log since they were stored (R327, R410). -/
structure FrameSend where
  session : Fin 16
  struck : List SlotErr
  deriving DecidableEq, Repr

/-- A Tally that no record has entered for 1 µs: its region, and the errors that strike its FIFO (R140, R142). -/
structure DrainIdle where
  region : RegionIx
  errs : List FifoErr
  deriving DecidableEq, Repr

/-- The end of a write of a drain: whether it succeeded, the errors that strike the FIFO, and those that strike the reads of a
read-merge-write, the first and the second (R140, R142, R257). -/
structure DrainWrite where
  ok : Bool
  errs : List FifoErr
  first : ErrPat
  second : ErrPat
  deriving DecidableEq, Repr

/-- How a training of a channel ends (R269, R270). -/
structure TrainResult where
  /-- Chip-select and command-address training and write leveling have found settings (R269). -/
  levelled : Bool
  /-- Delay settings 0 to 127 that pass, one bit each: lanes 0 to 9 of the read sweep, then of the write sweep (R269). -/
  passes : List Nat
  /-- Passing range of the receiver reference at the delay selected, in the same order: lowest, highest (R269). -/
  refs : List (Nat × Nat)
  /-- PHY temperature, 1/16 degree. -/
  temp : Int
  deriving DecidableEq, Repr

/-- What discovery finds on a channel (R250). -/
structure ChanFind where
  present : Bool
  /-- 0 x8, 1 x16. -/
  width : Nat
  /-- 0 16 Gb, 1 24 Gb, 2 32 Gb. -/
  density : Nat
  ranks : Nat
  /-- The devices are none that R249 excludes. -/
  supported : Bool
  /-- Speed grade of the devices, MT/s (R276). -/
  grade : Nat
  /-- The 64 bytes of JESD79-5 timings that discovery puts into ShadowA (R250, R275). -/
  timings : Nat
  train : TrainResult
  deriving DecidableEq, Repr

/-- What the hardware and the board decide while a power-up runs (R250, R433, R434). -/
structure World where
  pllLocks : Bool
  linkA : Bool
  linkB : Bool
  ch0 : ChanFind
  ch1 : ChanFind
  ch2 : ChanFind
  ch3 : ChanFind
  /-- Units whose calibration is rejected (R434): 0 to 127 cells, 128 to 135 Jokers. -/
  suspects : List Nat
  /-- The board held the DRAM supplies meanwhile (R272, R437). -/
  dramHeld : Bool
  deriving DecidableEq, Repr

/-- What one calibration pass measures of a unit (R175 to R178, R191). -/
structure Measure where
  /-- Delay of candidate c of stage k at 3 k + c, 1/16 fu (R175). -/
  delays : List Int
  /-- Hits of the code-density collection, one per tap (R177). -/
  hits : List Nat
  /-- Drive-path and compare-path offset, fu (R174). -/
  drive : Int
  compare : Int
  /-- Measured levels, µV: of level DAC d at −1.5 V and at +6.0 V, without trim, at 2 d and 2 d + 1; then the threshold offsets of
  VOH and VOL (R176, R191). -/
  levels : List Int
  /-- Integral error of candidate c of boundary k of level DAC d at (d * 257 + k) * 3 + c (R176). -/
  tapErr : List Int
  deriving DecidableEq, Repr, Inhabited

/-- What happens as a microword is fetched and executed (R306, R308). -/
inductive MicroEv where
  | clean
  /-- A corrected single-bit error in the word or in a register read. -/
  | corrected
  /-- An uncorrectable error in the control store or in a register. -/
  | uncorrectable
  /-- The target answers Busy. -/
  | busy
  deriving DecidableEq, Repr

/-- What DBGCTL is told to do (R426, R427). -/
inductive DbgOp where
  | halt
  | step
  | readReg (i : Fin 16)
  | resume
  deriving DecidableEq, Repr

/-- What DBGPEEK reads (R426). -/
inductive Peek where
  | controlStore (a : Nat)
  | comb (r : RegionIx) (e : Nat)
  | failFifo (r : RegionIx) (i : Nat)
  | keeperSram (slot : Nat)
  deriving DecidableEq, Repr

/-- The commands of the block, one constructor per row of spec/opcode_table.json. -/
inductive Instr where
  /-- PORST_N_RELEASE (R433): Release of PORST_N samples FACT and the lifecycle fuses, then runs the power-up steps until both regions reach Ready. -/
  | porstNRelease (fact : Bool) (w : World)
  /-- PORST_N_FALL (R435): A falling edge of PORST_N isolates every pin within 1 µs, ends sessions and holds the part in reset. -/
  | porstNFall
  /-- WARM_RESET (R436): After 10 ms without a supervision pulse the Keeper resets the core and pin dies and reruns power-up from step 3. -/
  | warmReset (w : World)
  /-- VKEEP_BELOW_RESET (R374): VKEEP falling below its reset level resets the Keeper, as a removal of power. -/
  | vkeepBelowReset
  /-- CLR_N_FALL (R223): CLR_N held low for 100 ns applies the clear values to every enabled DAC, logs the edge and raises ClearInput. -/
  | clrNFall
  /-- FOLDIN_N_FALL (R399): FOLDIN_N low for 100 ns raises FoldInput and Folds the chip within 1 µs. -/
  | foldinNFall
  /-- MAIN_PLL_LOSS (R33): Loss of main PLL lock or of REFCLK raises MainPllLoss and Folds the chip. -/
  | mainPllLoss
  /-- DDR_PLL_LOSS (R33): Loss of lock of a DDR PLL is a fault of that channel and raises DdrPllLoss. -/
  | ddrPllLoss (n : DramIx)
  /-- SERDES_PLL_LOSS (R33): Loss of lock of a serdes PLL is a fault of that Thenko port only. -/
  | serdesPllLoss (p : PortIx)
  /-- RAIL_BELOW_WARNING (R385): A watched rail held below its warning level for 1 µs enters shed stage S1 if Stage is None. -/
  | railBelowWarning (rail : Fin 12)
  /-- RAIL_BELOW_RESET (R386): A rail other than VKEEP below its reset level takes Stage at once to S5. -/
  | railBelowReset (rail : Fin 12)
  /-- SHED_STAGE_ADVANCE (R386): Every StageDwell while a rail stays below warning, Stage advances one stage up to MaxStage and applies its effects. -/
  | shedStageAdvance
  /-- SHED_RECOVERY (R387): After every rail has stayed above warning for 1 ms the stages are restored in descending order. -/
  | shedRecovery (w : World)
  /-- TEMPERATURE_UPDATE (R384): Every 1 ms the die and cell sensors update, raising DieOverTemp or DieShutdown where limits are passed. -/
  | temperatureUpdate (core dieA dieB : Int) (units : List (Fin 136 × Int)) (phy : List Int)
  /-- POWER_REPORT_UPDATE (R383): Every 1 ms while FCLK runs, PowerReport takes new measured values. -/
  | powerReportUpdate (core dieA dieB total energy : Nat) (volts amps : List Int)
  /-- DOWN_FRAME (R20): A pin-link down frame delivers up to four region-vectors with their timing-set indices and hold flags to the pin die. -/
  | downFrame (r : RegionIx) (data : BitVec 1152) (chk : BitVec 144)
  /-- UP_FRAME (R20): A pin-link up frame returns fail masks, cycle tags and compare-summary flags to the core die. -/
  | upFrame (r : RegionIx) (data : BitVec 320) (chk : BitVec 40)
  /-- COUPLING_WRITE (R26): A write to Coupling changes the region arrangement and invalidates both admissions, refused in Run or Calibrate. -/
  | couplingWrite (h : Hdr) (d : Data)
  /-- TIMING_SET_PERIOD_WRITE (R51): A write to a timing set's Period stores it, revalidates the set and invalidates admission. -/
  | timingSetPeriodWrite (h : Hdr) (r : RegionIx) (k : WaggleIx) (d : Data)
  /-- CELL_TIMING_WRITE (R51): A write to one CellTiming entry stores it, revalidates the set and invalidates admission. -/
  | cellTimingWrite (h : Hdr) (r : RegionIx) (k p : WaggleIx) (d : Data)
  /-- ENTRY_INDEX_WRITE (R65): A write to EntryIndex sets the first instruction and invalidates admission. -/
  | entryIndexWrite (h : Hdr) (r : RegionIx) (d : Data)
  /-- ANCHORED_ENTRIES_WRITE (R70): A write to AnchoredEntries repartitions the Comb, zeroes the anchored area and sets CombState Invalid. -/
  | anchoredEntriesWrite (h : Hdr) (r : RegionIx) (d : Data)
  /-- STALL_POLICY_WRITE (R86): A write to StallPolicy sets the Hold or Fold policy and RestartDepth and invalidates admission. -/
  | stallPolicyWrite (h : Hdr) (r : RegionIx) (d : Data)
  /-- RUN_CLASS_WRITE (R96): A write of RunCtl.Class changes the run class and invalidates the current admission result. -/
  | runClassWrite (h : Hdr) (r : RegionIx) (w : BitVec 32)
  /-- RUN_ADMIT (R91): RunCtl.Admit starts admission of the region's program without starting a run. -/
  | runAdmit (h : Hdr) (r : RegionIx) (w : BitVec 32)
  /-- RUN_START (R96): RunCtl.Start clears the run counters and enters Admitting or Prefill. -/
  | runStart (h : Hdr) (r : RegionIx) (w : BitVec 32)
  /-- RUN_STOP (R96): RunCtl.Stop ends the run at the next vector boundary and drains spilled events. -/
  | runStop (h : Hdr) (r : RegionIx) (w : BitVec 32)
  /-- RUN_ABORT (R96): RunCtl.Abort ends the run at the next vector boundary and drops pending events unjudged. -/
  | runAbort (h : Hdr) (r : RegionIx) (w : BitVec 32)
  /-- ADMISSION_COMPLETE (R92): Admission finishes its checks and ring analysis and reports Result and Reason in RunAdmission. -/
  | admissionComplete (a : AdmissionEnd)
  /-- PREFILL_COMPLETE (R97): When the ring is full or the prefetcher stops, the run issues cycle 0 or waits in Armed. -/
  | prefillComplete (r : RegionIx)
  /-- SCHEDULED_START_DUE (R339): At the scheduled PTP time an Armed run issues cycle 0, marking Late or FreeRunning where they apply. -/
  | scheduledStartDue
  /-- VECTOR_ISSUE (R23): One period after the last vector the sequencer issues the next planned vector with its cycle number and timing set. -/
  | vectorIssue (r : RegionIx) (own other : CombErr)
  /-- HOLD_VECTOR_ISSUE (R85): While the ring lacks RestartDepth entries after a stall or redirect, a hold vector is issued instead. -/
  | holdVectorIssue (r : RegionIx)
  /-- HALT (R67): HALT ends the program and starts the drain of spilled events. -/
  | seqHalt (r : RegionIx)
  /-- PLAY (R73): PLAY issues Count vectors of a segment in its timing set. -/
  | seqPlay (r : RegionIx)
  /-- REPEAT (R73): REPEAT plays one vector Count times. -/
  | seqRepeat (r : RegionIx)
  /-- LOOP (R73): LOOP pushes a loop frame whose body runs Count times. -/
  | seqLoop (r : RegionIx)
  /-- ENDLOOP (R73): ENDLOOP decrements the innermost loop count and jumps back or pops the loop. -/
  | seqEndloop (r : RegionIx)
  /-- MATCH (R80): MATCH repeats an anchored segment until an iteration passes or Count iterations time out. -/
  | seqMatch (r : RegionIx)
  /-- JUMP (R73): JUMP transfers control to Target. -/
  | seqJump (r : RegionIx)
  /-- BRANCH (R79): BRANCH takes Target if its condition holds, clearing the accumulator or latch it reads. -/
  | seqBranch (r : RegionIx)
  /-- CALL (R73): CALL pushes the following index and transfers to Target. -/
  | seqCall (r : RegionIx)
  /-- RETURN (R73): RETURN pops the call stack and continues there. -/
  | seqReturn (r : RegionIx)
  /-- WAIT (R81): WAIT repeats an anchored vector until its Waggle latch is seen set or Count repetitions time out. -/
  | seqWait (r : RegionIx)
  /-- SIGNAL (R82): SIGNAL fires its Waggle channel when the next vector starts at the ball. -/
  | seqSignal (r : RegionIx)
  /-- RING_ENTRY_ARRIVAL (R83): A prefetched DRAM burst enters the stream ring, possibly ending holds once the refill depth is met. -/
  | ringEntryArrival (r : RegionIx)
  /-- FAIL_ACCUMULATOR_SET (R78): Once a fail result enters decisions after the decision lag, it sets the fail accumulators of the masks that select it. -/
  | failAccumulatorSet (r : RegionIx)
  /-- DRAIN_COMPLETE (R62): When every spilled event of the last vector has been judged, the run reaches Ended. -/
  | drainComplete (r : RegionIx)
  /-- DRIVE_EDGE (R52): At a programmed drive edge the cell's driver changes level or on/off state as its format directs. -/
  | driveEdge (c : CellIx)
  /-- FRC_EDGE (R44): A scheduled free-running clock edge rises or falls, subject to gating and Z. -/
  | frcEdge (c : CellIx)
  /-- STROBE_EVENT (R111): At its judging instant a strobe event is judged pass, fail or masked and the counters and FirstFail update. -/
  | strobeEvent (c : CellIx)
  /-- COMPARATOR_CROSSING (R105): The pin crosses a comparator threshold plus or minus h/2, changing the class and feeding the stamper. -/
  | comparatorCrossing (c : CellIx) (uv : Int) (coarse : Nat) (tap : Fin 128)
  /-- LEVELS_WRITE (R107): A write to Levels or LevelBlock is checked as a whole and moves the level DACs. -/
  | levelsWrite (h : Hdr) (c : CellIx) (sub : Nat) (d : Data)
  /-- LEVELS_SETTLED (R108): When every changed DAC has settled, LevelsSettling clears. -/
  | levelsSettled (c : CellIx)
  /-- FORMAT_TERM_WRITE (R110): A write to FormatTerm sets MaskAll, DataInvert and TermMode, moving the path state for a TermMode change. -/
  | formatTermWrite (h : Hdr) (c : CellIx) (d : Data)
  /-- STROBE_COUNTERS_CLEAR (R114): A write of 1 to StrobeCounters.Clear sets the cell's strobe counters to 0. -/
  | strobeCountersClear (h : Hdr) (c : CellIx) (d : Data)
  /-- PATH_REQUEST_WRITE (R122): A write to PathRequest starts a break-before-make path transition or an abandonment to Isolated. -/
  | pathRequestWrite (h : Hdr) (c : CellIx) (d : Data)
  /-- SWITCH_SENSED (R121): A switch sensed in its new state, or the end of a 200 ns gap, starts the next step of a path transition. -/
  | switchSensed (c : CellIx)
  /-- STATIC_DRIVE_WRITE (R124): A write to StaticDrive sets the driver off, low or high outside a run. -/
  | staticDriveWrite (h : Hdr) (c : CellIx) (d : Data)
  /-- TALLY_VECTOR_PROCESS (R131): When a vector's mask is complete, the Tally classifies it as frozen, not selected or due and offers a record. -/
  | tallyVectorProcess (r : RegionIx) (errs : List FifoErr)
  /-- TALLY_FREEZE (R136): Command Freeze opens a frozen span at the next cycle. -/
  | tallyFreeze (h : Hdr) (r : RegionIx)
  /-- TALLY_UNFREEZE (R136): Command Unfreeze closes the frozen span. -/
  | tallyUnfreeze (h : Hdr) (r : RegionIx)
  /-- TALLY_IDLE_TIMEOUT (R140): After 1 µs with no record entering the FIFO, the drain writes a partial group. -/
  | tallyIdleTimeout (i : DrainIdle)
  /-- TALLY_WRITE_COMPLETE (R140): A fail-area write completes, storing its records and advancing NextSlot. -/
  | tallyWriteComplete (r : RegionIx) (w : DrainWrite)
  /-- TMU_MODE_WRITE (R171): A write of TmuConfig.Mode moves the stamper between Off and Idle. -/
  | tmuModeWrite (h : Hdr) (c : CellIx) (d : Data)
  /-- TMU_ARM (R168): Command Arm arms an Idle stamper in Armed, Frequency or Interval mode. -/
  | tmuArm (h : Hdr) (c : CellIx)
  /-- TMU_DISARM (R168): Command Disarm ends a capture, counting undecided opportunities in NoEdge. -/
  | tmuDisarm (h : Hdr) (c : CellIx)
  /-- TMU_CLEAR_RESULTS (R168): Command ClearResults resets every TmuResult counter, accumulator and flag. -/
  | tmuClearResults (h : Hdr) (c : CellIx)
  /-- TMU_WINDOW_CLOSE (R157): At an inline window's close the opportunity is decided as a sample, NoEdge, Skipped or OutOfRange. -/
  | tmuWindowClose (c : CellIx)
  /-- TMU_GATE_CLOSE (R161): A gate closes, deciding its opportunity and returning the stamper to Idle after the last gate. -/
  | tmuGateClose (c : CellIx)
  /-- CALIBRATE (R201): CalStatus Command Calibrate requests a cell calibration of the unit. -/
  | calibrate (h : Hdr) (u : Fin 136)
  /-- CANCEL (R201): CalStatus Command Cancel withdraws the unit's request not yet started. -/
  | cancel (h : Hdr) (u : Fin 136)
  /-- REQUEST_ALL (R199): CalPolicy Command RequestAll requests calibration of every unit of the region. -/
  | requestAll (h : Hdr) (r : RegionIx)
  /-- CANCEL_PENDING (R199): CalPolicy Command CancelPending withdraws every request not yet started. -/
  | cancelPending (h : Hdr) (r : RegionIx)
  /-- CAL_REQUEST_START (R184): A block with no calibration running starts the next queued request, directly or through a Joker preload. -/
  | calRequestStart (b : BlockIx)
  /-- PRELOAD_COMPLETE (R186): The Joker finishes loading the cell's shadow configuration and begins tracking and the quiet-point search. -/
  | preloadComplete (b : BlockIx)
  /-- SWAP_IN (R188): At a quiet point the Joker takes the pin through a Bridge and the cell moves to its loopback. -/
  | swapIn (b : BlockIx)
  /-- SWAP_BACK (R188): At a quiet point after calibration the cell takes the pin back through a Bridge. -/
  | swapBack (b : BlockIx)
  /-- QUIET_TIMEOUT (R190): QuietTimeout elapsing defers a swap-in or sets SwapBackLate for a swap-back. -/
  | quietTimeout (b : BlockIx)
  /-- DEFER_RETRY_EXPIRY (R190): After DeferRetry a deferred request returns to the block queue. -/
  | deferRetryExpiry (u : Fin 136)
  /-- CAL_PASS_COMPLETE (R191): A calibration pass ends; after pass B the passes are compared and the calibration accepted, repeated or rejected. -/
  | calPassComplete (u : Fin 136) (m : Measure)
  /-- GRADUAL_STEP (R181): Every StepInterval each pending offset and trim of a unit on the ball in Run moves one step toward its target. -/
  | gradualStep (r : RegionIx)
  /-- BACKGROUND_VISIT (R194): Every 1 ms the background engine measures one unit and updates its offset and trim targets and tap widths. -/
  | backgroundVisit (b : BlockIx) (refv drive compare : Int) (levels : List Int) (hits : List Nat)
  /-- REF_FAULT_CLEAR (R179): After 1 s within 0.4 %, the block leaves RefFault. -/
  | refFaultClear (b : BlockIx)
  /-- REMAP_POSITION_WRITE (R196): A write to JokerControl.RemapPosition remaps a cell to its Joker permanently or removes the remap. -/
  | remapPositionWrite (h : Hdr) (b : BlockIx) (d : Data)
  /-- PMU_CONFIG_WRITE (R210): A write to PmuConfig is checked against its resulting values and reaches the PMU DACs. -/
  | pmuConfigWrite (h : Hdr) (c : CellIx) (sub : Nat) (d : Data)
  /-- MEASURE (R216): Command Measure starts a PMU measurement, which settles then converts. -/
  | measure (h : Hdr) (c : CellIx)
  /-- ABORT_MEASURE (R216): Command AbortMeasure ends a measurement in any state with State Aborted. -/
  | abortMeasure (h : Hdr) (c : CellIx)
  /-- RESTORE (R225): Command Restore applies every stored value of the cell to its DACs and clears ClearHeld. -/
  | restore (h : Hdr) (c : CellIx)
  /-- CLEAR_FLAGS (R218): Command ClearFlags clears ShortCircuit and KelvinOpen unless the cause persists. -/
  | clearFlags (h : Hdr) (c : CellIx)
  /-- SETTLE_EXPIRY (R215): After SettleTime the measurement enters Converting. -/
  | settleExpiry (c : CellIx)
  /-- ADC_CONVERSION_SLOT (R214): Every 1 µs the block ADC converts for a PMU measurement, Sentinel readback or calibration in that order. -/
  | adcConversionSlot (b : BlockIx) (code : Nat)
  /-- PMU_SHORT (R206): The current limiter or saturation engages, setting ShortCircuit and raising PmuShort. -/
  | pmuShort (c : CellIx)
  /-- CLAMP_ACTIVE_ONSET (R205): The output becomes held by a clamp, setting ClampActive and with ClampAlarm raising PmuClamp. -/
  | clampActiveOnset (c : CellIx)
  /-- KELVIN_OPEN (R207): Force and sense differing by over 500 mV sets KelvinOpen and moves regulation to the force node. -/
  | kelvinOpen (c : CellIx)
  /-- CLEAR_VALUES_WRITE (R221): A write to ClearValues sets the clear values used by the next clear. -/
  | clearValuesWrite (h : Hdr) (c : CellIx) (d : Data)
  /-- DDS_START (R229): DdsConfig Command Start zeroes the accumulator and runs or arms the DDS. -/
  | ddsStart (h : Hdr) (b : BlockIx)
  /-- DDS_STOP (R229): DdsConfig Command Stop zeroes every route term and stops the DDS. -/
  | ddsStop (h : Hdr) (b : BlockIx)
  /-- DDS_FREEZE (R229): DdsConfig Command Freeze holds the accumulator and every term. -/
  | ddsFreeze (h : Hdr) (b : BlockIx)
  /-- DDS_RESUME (R229): DdsConfig Command Resume runs the DDS from its held phase. -/
  | ddsResume (h : Hdr) (b : BlockIx)
  /-- DDS_UPDATE (R226): At each 25 MHz update the accumulator advances and every enabled route sets its force-voltage DAC. -/
  | ddsUpdate (b : BlockIx)
  /-- DDS_ROUTE_ENABLE_WRITE (R228): A write of DdsRoute.Enable routes or unroutes the block DDS to the cell. -/
  | ddsRouteEnableWrite (h : Hdr) (c : CellIx) (d : Data)
  /-- AMPLITUDE_WRITE (R229): A write of DdsRoute.Amplitude takes effect at the next zero crossing of the table index or at once. -/
  | amplitudeWrite (h : Hdr) (c : CellIx) (d : Data)
  /-- SENTINEL_TICK (R233): At each multiple of TickPeriod sampled Sentinels power their comparators for 2 µs. -/
  | sentinelTick (r : RegionIx)
  /-- SENTINEL_SAMPLE (R233): At the end of the 2 µs the raw class is sampled and filtered into the monitor output. -/
  | sentinelSample (m : MonId) (uv : Int)
  /-- BLANK_TIME_EXPIRY (R234): BlankTime after a blanking trigger, the blanking interval ends. -/
  | blankTimeExpiry (m : MonId)
  /-- SENTINEL_CROSSING (R231): The input of a continuous Sentinel crosses a threshold band, changing the raw class. -/
  | sentinelCrossing (m : MonId) (uv : Int)
  /-- SENTINEL_TRIP (R236): The alarm condition held for Deglitch, or an Unsettled class, trips the driver off and raises SentinelTrip. -/
  | sentinelTrip (m : MonId)
  /-- RELEASE_TIME_EXPIRY (R237): Under AutoRelease, ReleaseTime without the alarm condition releases the trip. -/
  | releaseTimeExpiry (m : MonId)
  /-- RELEASE_TRIP (R237): Command ReleaseTrip releases a trip whose cause has gone. -/
  | releaseTrip (h : Hdr) (m : MonId)
  /-- SENTINEL_CLEAR_COUNTS (R242): Command ClearCounts sets Onsets and Trips to 0. -/
  | sentinelClearCounts (h : Hdr) (m : MonId)
  /-- SENTINEL_READBACK (R238): Every ReadbackInterval a threshold is read back, setting ReadbackFault and tripping on disagreement. -/
  | sentinelReadback (b : BlockIx) (code : Nat)
  /-- SENTINEL_CONFIG_WRITE (R243): A write to SentinelConfig moves thresholds and resets the filter. -/
  | sentinelConfigWrite (h : Hdr) (m : MonId) (sub : Nat) (d : Data)
  /-- DRAM_READ_COMPLETE (R256): A burst read returns and is checked by D72, CRC and tag, corrected, reread or failed. -/
  | dramReadComplete (n : DramIx) (e1 e2 : ErrPat)
  /-- DRAM_WRITE_COMPLETE (R263): A burst write reaches the devices and completes for its port. -/
  | dramWriteComplete (n : DramIx) (e1 e2 : ErrPat)
  /-- REFRESH_INTERVAL (R266): Each tREFI a refresh round falls due, with postponement and all-bank fallback after four rounds.
  `place` is 2 x subchannel + rank; `moments` are the bank addresses, one bit each, that had a moment without a request. -/
  | refreshInterval (n : DramIx) (place : Fin 4) (moments : Nat)
  /-- PAGE_IDLE_TIMEOUT (R265): PageIdle cycles after a bank's last access its open row is closed. -/
  | pageIdleTimeout (n : DramIx) (s : Fin 2) (bank : Fin 64)
  /-- WRITE_QUEUE_AGE (R264): A write waiting 4 µs starts a drain of the channel's write queue. -/
  | writeQueueAge (n : DramIx)
  /-- TOKEN_REFILL (R262): Each port regulator gains tokens at its Share rate up to Depth. -/
  | tokenRefill (r : RegionIx)
  /-- RETRAIN (R277): TrainingStatus Command Retrain runs a full training of the channel. -/
  | retrain (h : Hdr) (n : DramIx)
  /-- RETRAIN_COMPLETE (R270): A retraining or training ends with new lane settings or no working setting. -/
  | retrainComplete (n : DramIx) (t : TrainResult)
  /-- SERVICE_EXIT_IDLE (R272): After 100 µs without a request a service exit returns the channels to self-refresh. -/
  | serviceExitIdle (r : RegionIx)
  /-- LOAD_FENCE_REQUEST (R268): A write to LoadFence.Request starts a fence over the named regions. -/
  | loadFenceRequest (h : Hdr) (d : Data)
  /-- FENCE_COMPLETE (R268): When its writes and earlier fences complete, the fence completes, redirects running prefetchers and fires FenceDone. -/
  | fenceComplete
  /-- SHADOW_SELECT_WRITE (R273): Writing ShadowSelect with the inactive set starts a frequency change of the region. -/
  | shadowSelectWrite (h : Hdr) (r : RegionIx) (d : Data)
  /-- FREQUENCY_CHANGE_COMPLETE (R273): Training at the new rate ends and the new shadow becomes active, or the change reverts. -/
  | frequencyChangeComplete (r : RegionIx) (t0 t1 back0 back1 : TrainResult)
  /-- DRAM_CONFIG_WRITE (R274): A write of AddressMap, VectorSpaceBytes or FailAreaBytes relays out the region and increments Epoch. -/
  | dramConfigWrite (h : Hdr) (r : RegionIx) (sub : Nat) (d : Data)
  /-- DRAM_SHADOW_WRITE (R276): A write to a DramShadow set stores new timings and discards its training results. -/
  | dramShadowWrite (h : Hdr) (r : RegionIx) (sub : Nat) (d : Data)
  /-- PORT_REGULATOR_WRITE (R278): A write to PortRegulator sets port Shares, Depths and Borrow bits. -/
  | portRegulatorWrite (h : Hdr) (r : RegionIx) (sub : Nat) (d : Data)
  /-- OFFER_ARRIVAL (R288): Offers arriving at a consumer are merged, delivered or overrun and the delivery acts on the consumer. -/
  | offerArrival (consumer : WaggleIx)
  /-- ENABLE (R295): Waggle Command Enable sets Owner, clears the counters and enables the channel. -/
  | enable (h : Hdr) (k : WaggleIx)
  /-- DISABLE (R295): Waggle Command Disable stops source events and disables the channel once InFlight is 0. -/
  | disable (h : Hdr) (k : WaggleIx)
  /-- FIRE (R281): Waggle Command Fire makes a source event of the channel. -/
  | fire (h : Hdr) (k : WaggleIx)
  /-- RECONFIRM (R292): Waggle Command Reconfirm returns a Suspended channel to Enabled. -/
  | reconfirm (h : Hdr) (k : WaggleIx)
  /-- WAGGLE_CLEAR_COUNTS (R295): Waggle Command ClearCounts clears a Disabled channel's counters. -/
  | waggleClearCounts (h : Hdr) (k : WaggleIx)
  /-- RECLAIM (R291): Waggle Command Reclaim from a secure Dealer sets Owner to the writer's session. -/
  | reclaim (h : Hdr) (k : WaggleIx)
  /-- CLEAR_CONSUMERS (R296): A write of 1 to ClearConsumers resets every consumer record. -/
  | clearConsumers (h : Hdr) (d : Data)
  /-- EVIO_EDGE (R293): A selected edge of an EVIO input after its synchroniser is a Waggle source event. -/
  | evioEdge (n : Fin 8) (level : Bool)
  /-- EVIO_PULSE_END (R293): After PulseWidth FCLK cycles an EVIO output returns to its idle level. -/
  | evioPulseEnd (n : Fin 8)
  /-- ROUTINE_START (R299): An idle context starts its most urgent queued routine, loading arguments and clearing registers. -/
  | routineStart (x : CtxIx)
  /-- NOP (R302): Microword NOP holds its context for its dwell. -/
  | microNop (x : CtxIx) (ev : MicroEv)
  /-- MOV (R302): Microword MOV sets Rd to the second operand. -/
  | microMov (x : CtxIx) (ev : MicroEv)
  /-- ADD (R302): Microword ADD adds and sets the flags. -/
  | microAdd (x : CtxIx) (ev : MicroEv)
  /-- SUB (R302): Microword SUB subtracts and sets the flags. -/
  | microSub (x : CtxIx) (ev : MicroEv)
  /-- AND (R302): Microword AND computes a bitwise AND. -/
  | microAnd (x : CtxIx) (ev : MicroEv)
  /-- OR (R302): Microword OR computes a bitwise OR. -/
  | microOr (x : CtxIx) (ev : MicroEv)
  /-- XOR (R302): Microword XOR computes a bitwise exclusive OR. -/
  | microXor (x : CtxIx) (ev : MicroEv)
  /-- SHL (R302): Microword SHL shifts left logically. -/
  | microShl (x : CtxIx) (ev : MicroEv)
  /-- SHR (R302): Microword SHR shifts right logically. -/
  | microShr (x : CtxIx) (ev : MicroEv)
  /-- CMP (R302): Microword CMP sets the flags from Ra minus the operand. -/
  | microCmp (x : CtxIx) (ev : MicroEv)
  /-- RDOBJ (R302): Microword RDOBJ reads a dictionary object into Rd. -/
  | microRdobj (x : CtxIx) (ev : MicroEv)
  /-- WROBJ (R302): Microword WROBJ writes an absolute value to a dictionary object. -/
  | microWrobj (x : CtxIx) (ev : MicroEv)
  /-- ADDOBJ (R302): Microword ADDOBJ adds to an object, a microcode fault before COMMIT. -/
  | microAddobj (x : CtxIx) (ev : MicroEv)
  /-- RDUNIT (R302): Microword RDUNIT reads a unit register. -/
  | microRdunit (x : CtxIx) (ev : MicroEv)
  /-- WRUNIT (R302): Microword WRUNIT writes an absolute value to a unit register. -/
  | microWrunit (x : CtxIx) (ev : MicroEv)
  /-- BR (R303): Microword BR branches to Target when its condition holds. -/
  | microBr (x : CtxIx) (ev : MicroEv)
  /-- COMMIT (R307): Microword COMMIT makes the routine committed so it is no longer abandoned. -/
  | microCommit (x : CtxIx) (ev : MicroEv)
  /-- END (R302): Microword END ends the routine and clears Transitional. -/
  | microEnd (x : CtxIx) (ev : MicroEv)
  /-- FAULT (R302): Microword FAULT ends the routine as a microcode fault with its code. -/
  | microFault (x : CtxIx) (ev : MicroEv)
  /-- LOG (R302): Microword LOG writes a log entry, a microcode fault before COMMIT. -/
  | microLog (x : CtxIx) (ev : MicroEv)
  /-- ROUTINE_TIME_LIMIT (R308): 1 s from first entry without END ends the routine as a microcode fault. -/
  | routineTimeLimit (x : CtxIx)
  /-- ARM_BANK0 (R314): PatchControl Command ArmBank0 switches the selected contexts to bank 0's entry overrides. -/
  | armBank0 (h : Hdr)
  /-- ARM_BANK1 (R314): PatchControl Command ArmBank1 switches the selected contexts to bank 1's entry overrides. -/
  | armBank1 (h : Hdr)
  /-- PATCH_DISARM (R314): PatchControl Command Disarm returns the selected contexts to the ROM entries. -/
  | patchDisarm (h : Hdr)
  /-- ATTACH (R323): An Attach message opens an Observer session with the lowest free session number. HostId has 64 bits, of which the
  upper 16 are not used (R322). -/
  | attach (h : Hdr) (hostId upper : Nat)
  /-- DETACH (R323): A Detach message ends the session, vacating the Dealer if it held the deal. -/
  | detach (h : Hdr)
  /-- WRITE (R358): A Write message to a register with no row of its own is checked and applied whole or refused. -/
  | write (h : Hdr) (idx sub : Nat) (d : Data)
  /-- READBLOCK (R327): A ReadBlock opens a transfer that returns a DOMAIN range in BlockData frames. -/
  | readblock (h : Hdr) (idx sub off len : Nat)
  /-- BLOCK_DATA_SEND (R327): With a host credit open, the part sends the next BlockData frame of a ReadBlock, then the final response. -/
  | blockDataSend (f : FrameSend)
  /-- WRITEBLOCK (R327): A WriteBlock opens a transfer into a DOMAIN object and grants credits. -/
  | writeblock (h : Hdr) (idx sub off len : Nat)
  /-- BLOCK_DATA (R327): A host BlockData frame at AckOffset with a credit open is accepted into its WriteBlock transfer. -/
  | blockData (h : Hdr) (off : Nat) (bytes : List Byte)
  /-- BLOCK_TRANSFER_TIMEOUT (R327): A WriteBlock with no accepted frame for 1 s is ended with a state-conflict error. -/
  | blockTransferTimeout (i : Fin 16)
  /-- NOTIFY_ACK (R331): A session's response acknowledges a Notify, removing it from that session's retransmissions. -/
  | notifyAck (h : Hdr)
  /-- NOTIFY_RETRANSMIT (R331): Every 1 ms an unacknowledged Notify is sent again, up to 8 times, then leaves the queue. -/
  | notifyRetransmit
  /-- CLAIM (R333): A Claim message enters or opens the Dealer election window, or is refused if a Dealer exists. -/
  | claim (h : Hdr) (prio cls : Nat)
  /-- ELECTION_WINDOW_CLOSE (R333): 1 ms after the first Claim, the highest-ranked claimer becomes Dealer and DealerEpoch increments. -/
  | electionWindowClose
  /-- YIELD (R334): A Yield passes the deal to a successor or vacates it. -/
  | yield (h : Hdr) (successor : Nat)
  /-- HEARTBEAT (R326): A Heartbeat message is answered with DealerEpoch and keeps the session alive. -/
  | heartbeat (h : Hdr)
  /-- HEARTBEAT_LAPSE (R335): No Dealer frame for HeartbeatTimeout vacates the Dealer. -/
  | heartbeatLapse
  /-- DEALER_VACATED_READY (R380): Once no region is in Run after a vacation, regions in Configure are moved to Ready. -/
  | dealerVacatedReady
  /-- SESSION_TIMEOUT (R323): No frame of a session for SessionTimeout ends the session. -/
  | sessionTimeout (i : Fin 16)
  /-- SYNC (R339): A Sync message from the Dealer writes ScheduledStart Time, Regions and Source as one write. -/
  | sync (h : Hdr) (broadcast : Bool) (time regions source hostId : Nat)
  /-- SCHEDULED_START_WRITE (R339): A write to ScheduledStart sets the start condition and clears Status. -/
  | scheduledStartWrite (h : Hdr) (sub : Nat) (d : Data)
  /-- CHALLENGE (R421): A Challenge message returns a fresh PartNonce and makes a challenge pending. -/
  | challenge (h : Hdr) (nonce : Nat)
  /-- ANSWER (R422): An Answer message is checked against HostMac, making the session secure or counting a failure. -/
  | answer (h : Hdr) (mac : Nat)
  /-- LOCKOUT_EXPIRY (R422): The authentication lockout period ends and Challenges are accepted again. -/
  | lockoutExpiry
  /-- PTP_MESSAGE (R338): A PTP message is time-stamped and steers the Keeper time. -/
  | ptpMessage (p : PortIx) (domain : Nat) (gm : Nat) (offset : Int) (delay : Nat) (calibrated : Bool)
  /-- FRAME_DISCARDED (R319): A frame failing address, EtherType, FCS, version, type or trailer checks is discarded and counted. -/
  | frameDiscarded (f : Frame)
  /-- LINK_DOWN (R330): A port's link goes down, ending its transfers. -/
  | linkDown (p : PortIx)
  /-- LINK_UP (R330): A port's link returns after negotiation and training, with sessions kept. -/
  | linkUp (p : PortIx) (o : LinkOffer) (f : FecOffer)
  /-- WAKE_FRAME (R332): A Thenko frame with the Wake flag and matching NodeAddress in Standby or Dormant is a wake request. -/
  | wakeFrame (p : PortIx) (wake : Bool) (node : Nat) (w : World)
  /-- NODE_ADDRESS_WRITE (R342): A write of NodeAddress.Address assigns the node address and sets Assigned. -/
  | nodeAddressWrite (h : Hdr) (d : Data)
  /-- SYNC0_EDGE (R340): A SYNC0 edge starts every Armed bus-sourced run 200 ns plus Deskew later, or counts as ignored. -/
  | sync0Edge
  /-- SYNC1_EDGE (R340): A SYNC1 edge applies RunCtl.Stop to each selected Armed or Running run. -/
  | sync1Edge
  /-- SYNC_PULSE (R348): SyncBus Command Pulse makes the master drive a SYNC0 edge. -/
  | syncPulse (h : Hdr)
  /-- SYNC_STOP (R348): SyncBus Command Stop makes the master drive a SYNC1 edge. -/
  | syncStop (h : Hdr)
  /-- MODE_REQUEST_CONFIGURE (R372): ModeRequest Configure moves named regions from Off or Ready to Configure. -/
  | modeRequestConfigure (h : Hdr)
  /-- STALENESS_CHECK_DONE (R439): The staleness check finishes its scrub, DRAM and calibration items and sets State Done. -/
  | stalenessCheckDone (r : RegionIx) (corrected uncorrectable : Nat) (t0 t1 : TrainResult) (suspects : List Nat)
  /-- MODE_REQUEST_READY (R372): ModeRequest Ready moves named regions from Configure to Ready. -/
  | modeRequestReady (h : Hdr)
  /-- MODE_REQUEST_CALIBRATE (R372): ModeRequest Calibrate moves named regions to Calibrate and starts full calibration. -/
  | modeRequestCalibrate (h : Hdr)
  /-- MODE_REQUEST_OFF (R372): ModeRequest Off isolates the pins, puts DRAM in self-refresh and unpowers the pin die. -/
  | modeRequestOff (h : Hdr)
  /-- MODE_REQUEST_STANDBY (R374): ModeRequest Standby records region modes, puts pin dies in Retention and stops the clocks. -/
  | modeRequestStandby (h : Hdr)
  /-- MODE_REQUEST_DORMANT (R374): ModeRequest Dormant ends every session and unpowers all but the Keeper. -/
  | modeRequestDormant (h : Hdr)
  /-- RESUME (R379): ModeRequest Resume clears ResumeRequired for named regions. -/
  | resume (h : Hdr)
  /-- LEAVE_FOLD (R401): ModeRequest LeaveFold moves named regions from Fold to Configure when nothing holds the Fold. -/
  | leaveFold (h : Hdr)
  /-- MODE_REQUEST_DONE (R378): When every named region or the chip reaches its target, ModeRequest.Status becomes Done. -/
  | modeRequestDone
  /-- CLEAR_PEAK (R389): A write of 1 to ShedStage.ClearPeak sets PeakStage to Stage. -/
  | clearPeak (h : Hdr) (d : Data)
  /-- COLLECTOR_CLEAR (R401): A write to a collector's Clear clears the named sources unless a condition cause is present. -/
  | collectorClear (h : Hdr) (col : ColId) (d : Data)
  /-- COLLECTOR_PARITY_ERROR (R402): A parity error in a collector Folds its scope, resets it and raises the parity source above. -/
  | collectorParityError (col : ColId)
  /-- CLEAR_BALANCE_VOID (R406): FaultSummary Command ClearBalanceVoid clears the chip Balance void marks. -/
  | clearBalanceVoid (h : Hdr)
  /-- CLEAR_CHIP_PARITY (R402): FaultSummary Command ClearChipParity ends the hold of a chip collector parity Fold. -/
  | clearChipParity (h : Hdr)
  /-- INJECT (R409): FaultInjection Command Inject raises Count events of Source, one per FCLK cycle. -/
  | inject (h : Hdr)
  /-- INJECT_PARITY (R409): FaultInjection Command InjectParity causes a parity error in the named collector. -/
  | injectParity (h : Hdr)
  /-- INJECTION_HOLD_EXPIRY (R409): Hold after an injected event, the cause of the injected condition source goes. -/
  | injectionHoldExpiry
  /-- LOG_ENTRY_WRITE (R411): Each Keeper clock cycle one entry is taken from the queue into the log ring. -/
  | logEntryWrite
  /-- LOG_CLEAR (R414): LogControl Command Clear discards every entry and writes LogCleared as entry 0. -/
  | logClear (h : Hdr)
  /-- KEY_PROVISION (R417): A write to KeyProvision stages a device key and sets KeyState Staged. -/
  | keyProvision (h : Hdr) (d : Data)
  /-- SEAL (R418): Lifecycle Command Seal programs and verifies the key fuses and blows the Sealed flag. -/
  | seal (h : Hdr)
  /-- RETIRE (R419): Lifecycle Command Retire blows every key fuse bit and moves to Retired. -/
  | retire (h : Hdr)
  /-- DISCARD_KEY (R417): Lifecycle Command DiscardKey clears the key staging. -/
  | discardKey (h : Hdr)
  /-- FUSE_PROGRAMMING_COMPLETE (R418): Fuse programming of a Seal or Retire ends with Status Done or Failed. -/
  | fuseProgrammingComplete (agree : Bool)
  /-- UNLOCK_TOKEN (R428): A write of UnlockToken from a secure session unlocks internal debug if the token is right. -/
  | unlockToken (h : Hdr) (d : Data)
  /-- LOCK (R428): DebugAccess Command Lock ends the debug unlock. -/
  | lock (h : Hdr)
  /-- UNLOCK_EXPIRY (R428): UnlockMinutes after acceptance, the debug unlock lapses. -/
  | unlockExpiry
  /-- TAP_RESET (R426): TRST_N or PORST_N puts the TAP into Test-Logic-Reset with IDCODE selected. -/
  | tapReset
  /-- IDCODE (R426): TAP instruction IDCODE selects the identification register. -/
  | tapIdcode
  /-- SAMPLE_PRELOAD (R426): TAP instruction SAMPLE/PRELOAD samples or preloads the boundary-scan register. -/
  | tapSamplePreload
  /-- EXTEST (R427): TAP instruction EXTEST drives boundary-scan balls when modes permit. -/
  | tapExtest
  /-- CLAMP (R427): TAP instruction CLAMP holds boundary outputs with bypass when modes permit. -/
  | tapClamp
  /-- HIGHZ (R427): TAP instruction HIGHZ puts boundary outputs at high impedance when modes permit. -/
  | tapHighz
  /-- DBGCTL (R427): TAP instruction DBGCTL halts, single-steps, reads or resumes a Ryuwister context when permitted. -/
  | dbgctl (x : CtxIx) (op : DbgOp)
  /-- DBGPEEK (R427): TAP instruction DBGPEEK reads control store, Comb, fail FIFO or Keeper SRAM when permitted. -/
  | dbgpeek (what : Peek)
  /-- BYPASS (R426): TAP instruction BYPASS selects the one-bit bypass register. -/
  | tapBypass
  /-- VKEEP_APPLIED (R34): VKEEP coming within range starts the Keeper oscillator and time, with DramConfig.Epoch and DealerEpoch at 1 and an empty log. -/
  | vkeepApplied
  /-- RAIL_ABOVE_WARNING (R385): A watched rail rises above its warning level plus hysteresis, clearing its ShedStage.Cause bit and starting the 1 ms recovery hold. -/
  | railAboveWarning (rail : Fin 12)
  /-- CLR_N_RISE (R223): CLR_N returns high, after which Restore and the implicit Restore on PathRequest are accepted. -/
  | clrNRise
  /-- FOLDIN_N_RISE (R399): FOLDIN_N returns high, removing the cause of the FoldInput condition source so that the chip Fold can be cleared. -/
  | foldinNRise
  /-- MAIN_PLL_RELOCK (R33): REFCLK returns and the main PLL regains lock, removing the cause of MainPllLoss. -/
  | mainPllRelock
  /-- DDR_PLL_RELOCK (R33): A DDR PLL regains lock, removing the cause of DdrPllLoss for its region. -/
  | ddrPllRelock (n : DramIx)
  /-- SERDES_PLL_RELOCK (R33): A Thenko serdes PLL regains lock, removing the cause of SerdesPllLoss. -/
  | serdesPllRelock (p : PortIx)
  /-- PMU_SHORT_RELEASE (R206): The cause of a short goes, the limiter or saturation disengages and the output returns to regulation, clearing the PmuShort cause. -/
  | pmuShortRelease (c : CellIx)
  /-- KELVIN_DIFFERENCE_CLEARED (R207): The PINnnn to KSnnn difference falls back within 500 mV, removing the cause of the KelvinOpen source. -/
  | kelvinDifferenceCleared (c : CellIx)
  /-- CLAMP_ACTIVE_END (R205): The PMU output leaves its clamp and returns to its force value, clearing PmuStatus.ClampActive. -/
  | clampActiveEnd (c : CellIx)
  /-- PTP_MASTER_LOST (R338): PTP messages from the selected master stop arriving, so PtpStatus.State leaves Slave and the Keeper time runs free with its disciplined flag 0. -/
  | ptpMasterLost
  deriving DecidableEq, Repr

end Sys2Proof
end

