-- ==== Sys2Proof/Machine/Codes.lean ====
section
/-!
DEFINITION. The codes the part computes: D72 (R251 to R253), the CRC of a burst tag (R255), the CRC of a patch image (R311),
and HMAC-SHA-256 (R418, R421, R423, R428; FIPS 180-4 and 198-1).
-/
namespace Sys2Proof.Machine

/-! ### D72 (R251, R252) -/

/-- Column values of data bits 0 to 63: the 56 values of weight 3, then the eight smallest of weight 5 (R251). -/
def dataColumns : List Nat :=
  [0x07, 0x0B, 0x0D, 0x0E, 0x13, 0x15, 0x16, 0x19, 0x1A, 0x1C, 0x23, 0x25, 0x26, 0x29, 0x2A, 0x2C, 0x31, 0x32, 0x34,
   0x38, 0x43, 0x45, 0x46, 0x49, 0x4A, 0x4C, 0x51, 0x52, 0x54, 0x58, 0x61, 0x62, 0x64, 0x68, 0x70, 0x83, 0x85, 0x86,
   0x89, 0x8A, 0x8C, 0x91, 0x92, 0x94, 0x98, 0xA1, 0xA2, 0xA4, 0xA8, 0xB0, 0xC1, 0xC2, 0xC4, 0xC8, 0xD0, 0xE0, 0x1F,
   0x2F, 0x37, 0x3B, 0x3D, 0x3E, 0x4F, 0x57]

/-- Column values of fold bits 0 to 39: the smallest non-zero values of even weight (R251). -/
def foldColumns : List Nat :=
  [0x03, 0x05, 0x06, 0x09, 0x0A, 0x0C, 0x0F, 0x11, 0x12, 0x14, 0x17, 0x18, 0x1B, 0x1D, 0x1E, 0x21, 0x22, 0x24, 0x27,
   0x28, 0x2B, 0x2D, 0x2E, 0x30, 0x33, 0x35, 0x36, 0x39, 0x3A, 0x3C, 0x3F, 0x41, 0x42, 0x44, 0x47, 0x48, 0x4B, 0x4D,
   0x4E, 0x50]

/-- The exclusive OR of the columns whose bit of a number is set, bit 0 first. -/
def xorColumns : List Nat → Nat → Nat
  | [], _ => 0
  | c :: rest, v => (if v % 2 = 1 then c else 0) ^^^ xorColumns rest (v / 2)

/-- The check bits of 64 data bits under a fold word (R251). -/
def d72 (data fold : Nat) : Nat := xorColumns dataColumns data ^^^ xorColumns foldColumns fold

/-- What a codeword reads as: its data and check bits after correction, and whether a bit was corrected. -/
structure Decoded where
  data : Nat
  chk : Nat
  corrected : Bool
  deriving DecidableEq, Repr

/-- Decoding a codeword; none where it is uncorrectable (R252). -/
def d72Decode (data chk fold : Nat) : Option Decoded :=
  let s := chk ^^^ d72 data fold
  if s = 0 then some { data, chk, corrected := false }
  else match (List.range 8).find? fun j => decide (s = 2 ^ j) with
    | some j => some { data, chk := chk ^^^ 2 ^ j, corrected := true }
    | none =>
      let i := dataColumns.idxOf s
      if i < 64 then some { data := data ^^^ 2 ^ i, chk, corrected := true } else none

/-! ### Bytes -/

/-- The low `n` bytes of a number, least significant first (R321). -/
def bytesOf : Nat → Nat → List Nat
  | 0, _ => []
  | n + 1, v => v % 256 :: bytesOf n (v / 256)

/-- The number that bytes spell, least significant first (R321). -/
def numOf : List Nat → Nat
  | [] => 0
  | b :: rest => b + 256 * numOf rest

/-! ### Words of 64 bits under D72 (R253) -/

/-- Words of 64 bits as one number, the first lowest. -/
def joinWords : List Nat → Nat
  | [] => 0
  | w :: rest => w + 2 ^ 64 * joinWords rest

/-- The check bytes of `n` codewords over the 64-bit words of a number, the first lowest; each has its own fold word. -/
def protect : Nat → (Nat → Nat) → Nat → Nat
  | 0, _, _ => 0
  | n + 1, fold, v => d72 (v % 2 ^ 64) (fold 0) + 256 * protect n (fun i => fold (i + 1)) (v / 2 ^ 64)

/-- What `n` codewords read as: data and check bytes after correction, how many words had a bit corrected, and whether none of
them is uncorrectable. -/
structure Recovered where
  data : Nat := 0
  chk : Nat := 0
  corrected : Nat := 0
  ok : Bool := true
  deriving DecidableEq, Repr

/-- The check of `n` codewords (R252). -/
def recover (n : Nat) (fold : Nat → Nat) (data chk : Nat) : Recovered :=
  let good := ((List.range n).map fun w => d72Decode (field data (64 * w) 64) (field chk (8 * w) 8) (fold w)).filterMap id
  { data := joinWords (good.map (·.data)), chk := numOf (good.map (·.chk))
    corrected := (good.filter (·.corrected)).length, ok := decide (good.length = n) }

/-- The fold word of a quarter of a Comb entry (R253). -/
def combFold (e k : Nat) : Nat := e * 4 + k
/-- The fold word of the pin link, the fail FIFO, the Keeper log and counter storage (R253). -/
def noFold (_ : Nat) : Nat := 0

/-! ### CRC-16 and CRC-32 (R255, R311) -/

/-- One bit of CRC-16, polynomial 0x1021, no reflection. -/
def crc16Bit (crc : Nat) : Nat := if 32768 ≤ crc then ((2 * crc) % 65536) ^^^ 0x1021 else 2 * crc
/-- One byte of CRC-16, most significant bit first. -/
def crc16Byte (crc b : Nat) : Nat := (List.range 8).foldl (fun c _ => crc16Bit c) (crc ^^^ b * 256)
/-- CRC-16 with initial value 0xFFFF and no final exclusive OR (R255). -/
def crc16 (bs : List Nat) : Nat := bs.foldl crc16Byte 0xFFFF

/-- One bit of the reflected CRC-32 of IEEE 802.3. -/
def crc32Bit (crc : Nat) : Nat := if crc % 2 = 1 then (crc / 2) ^^^ 0xEDB88320 else crc / 2
/-- One byte of CRC-32. -/
def crc32Byte (crc b : Nat) : Nat := (List.range 8).foldl (fun c _ => crc32Bit c) (crc ^^^ b)
/-- CRC-32 of IEEE 802.3 (R311). -/
def crc32 (bs : List Nat) : Nat := bs.foldl crc32Byte 0xFFFFFFFF ^^^ 0xFFFFFFFF

/-! ### SHA-256 and HMAC (FIPS 180-4, FIPS 198-1) -/

/-- The round constants. -/
def shaK : List (BitVec 32) :=
  [0x428A2F98, 0x71374491, 0xB5C0FBCF, 0xE9B5DBA5, 0x3956C25B, 0x59F111F1, 0x923F82A4, 0xAB1C5ED5, 0xD807AA98,
   0x12835B01, 0x243185BE, 0x550C7DC3, 0x72BE5D74, 0x80DEB1FE, 0x9BDC06A7, 0xC19BF174, 0xE49B69C1, 0xEFBE4786,
   0x0FC19DC6, 0x240CA1CC, 0x2DE92C6F, 0x4A7484AA, 0x5CB0A9DC, 0x76F988DA, 0x983E5152, 0xA831C66D, 0xB00327C8,
   0xBF597FC7, 0xC6E00BF3, 0xD5A79147, 0x06CA6351, 0x14292967, 0x27B70A85, 0x2E1B2138, 0x4D2C6DFC, 0x53380D13,
   0x650A7354, 0x766A0ABB, 0x81C2C92E, 0x92722C85, 0xA2BFE8A1, 0xA81A664B, 0xC24B8B70, 0xC76C51A3, 0xD192E819,
   0xD6990624, 0xF40E3585, 0x106AA070, 0x19A4C116, 0x1E376C08, 0x2748774C, 0x34B0BCB5, 0x391C0CB3, 0x4ED8AA4A,
   0x5B9CCA4F, 0x682E6FF3, 0x748F82EE, 0x78A5636F, 0x84C87814, 0x8CC70208, 0x90BEFFFA, 0xA4506CEB, 0xBEF9A3F7,
   0xC67178F2]

/-- The initial hash value. -/
def shaH : List (BitVec 32) :=
  [0x6A09E667, 0xBB67AE85, 0x3C6EF372, 0xA54FF53A, 0x510E527F, 0x9B05688C, 0x1F83D9AB, 0x5BE0CD19]

/-- Words of a block, each from four bytes, most significant first. -/
def shaWords : List Nat → List (BitVec 32)
  | a :: b :: c :: d :: rest => BitVec.ofNat 32 (((a * 256 + b) * 256 + c) * 256 + d) :: shaWords rest
  | _ => []

/-- The next word of the schedule; words newest first. -/
def shaNext (w : List (BitVec 32)) : BitVec 32 :=
  let x := w.getD 14 0
  let y := w.getD 1 0
  let s0 := x.rotateRight 7 ^^^ x.rotateRight 18 ^^^ (x >>> 3)
  let s1 := y.rotateRight 17 ^^^ y.rotateRight 19 ^^^ (y >>> 10)
  w.getD 15 0 + s0 + w.getD 6 0 + s1

/-- The schedule, newest first. -/
def shaExtend : Nat → List (BitVec 32) → List (BitVec 32)
  | 0, w => w
  | n + 1, w => shaExtend n (shaNext w :: w)

/-- One round on the eight working variables. -/
def shaRound (v : List (BitVec 32)) (kw : BitVec 32) : List (BitVec 32) :=
  match v with
  | [a, b, c, d, e, f, g, h] =>
    let t1 := h + (e.rotateRight 6 ^^^ e.rotateRight 11 ^^^ e.rotateRight 25) + ((e &&& f) ^^^ (~~~e &&& g)) + kw
    let t2 := (a.rotateRight 2 ^^^ a.rotateRight 13 ^^^ a.rotateRight 22) + ((a &&& b) ^^^ (a &&& c) ^^^ (b &&& c))
    [t1 + t2, a, b, c, d + t1, e, f, g]
  | _ => v

/-- One block. -/
def shaBlock (h : List (BitVec 32)) (block : List Nat) : List (BitVec 32) :=
  let w := (shaExtend 48 (shaWords block).reverse).reverse
  let v := (List.zipWith (· + ·) shaK w).foldl shaRound h
  List.zipWith (· + ·) h v

/-- Blocks of 64 bytes, at most so many. -/
def shaBlocks : Nat → List (BitVec 32) → List Nat → List (BitVec 32)
  | 0, h, _ => h
  | n + 1, h, bs => if bs = [] then h else shaBlocks n (shaBlock h (bs.take 64)) (bs.drop 64)

/-- SHA-256 of some bytes: 32 bytes (log entry 69). -/
def sha256 (bs : List Nat) : List Nat :=
  let pad := (119 - bs.length % 64) % 64
  let msg := bs ++ [0x80] ++ List.replicate pad 0 ++ (bytesOf 8 (8 * bs.length)).reverse
  (shaBlocks (msg.length / 64) shaH msg).flatMap fun x => (bytesOf 4 x.toNat).reverse

/-- HMAC-SHA-256 under a key of at most 64 bytes (log entry 69). -/
def hmac (key bs : List Nat) : List Nat :=
  let k := key ++ List.replicate (64 - key.length) 0
  sha256 (k.map (· ^^^ 0x5C) ++ sha256 (k.map (· ^^^ 0x36) ++ bs))

end Sys2Proof.Machine
end

