-- ==== Sys2Proof/Config.lean ====
section
/-!
DEFINITION. What one part fixes and the rules leave open: fuses, the ROM, and the FREE VALUES. Every `opaque` here has no
body, so no proof can see its value; a claim that mentions one holds whatever it is (log entries 4 and 6).
-/
namespace Sys2Proof.Config

/-! ### Fixed in the die or in fuses -/

/-- The part is a DXS-4128-32 (R1, R370): its grade fuse. -/
opaque grade32 : Bool
/-- Identity.Stepping, 16 bits (R370). -/
opaque stepping : BitVec 16
/-- Identity.SerialNumber (R370). -/
opaque serial : BitVec 64
/-- The MAC address of a Thenko port (R317, R341). -/
opaque mac : Nat → BitVec 48
/-- UcodeVersion.RomVersion (R315). -/
opaque romVersion : BitVec 32
/-- The 8 192 ROM words of the control store (R300). -/
opaque rom : Nat → BitVec 128
/-- The entry table of the ROM, one entry for each routine number (R300). -/
opaque romEntry : Nat → BitVec 16
/-- The ROM address of the END word that the entries of event routines point to, modulo the ROM's size (R300). -/
opaque endWord : Nat
/-- Factory drive-path offset of unit u, fu (R178, R192). -/
opaque factoryDrive : Nat → Int
/-- Factory compare-path offset of unit u, fu (R178, R192). -/
opaque factoryCompare : Nat → Int
/-- Factory trim i of unit u, codes (R192). -/
opaque factoryTrim : Nat → Nat → Int
/-- Factory candidate of fine-delay stage k of unit u, of string-tap boundary k of unit u, modulo 3, and hits that give the factory
tap widths of unit u (R177, R192). -/
opaque factoryElement : Nat → Nat → Nat
opaque factoryTap : Nat → Nat → Nat
opaque factoryHits : Nat → List Nat
/-- Delay from the loopback node of cell u to its ball, fu (R178). -/
opaque ballPlane : Nat → Int
/-- Factory ball-plane offset of Joker b to the ball at position p, fu (R178). -/
opaque jokerBall : Nat → Nat → Int

/-- CL and CWL lie in the JESD79-5 range of a DataRate (R276): the table is in that standard, not in the rules (log entry 6). -/
opaque jedecLatency : Nat → Nat → Nat → Bool

/-! ### Free values: each use takes the next number of `Device.free` -/

/-- A random number of the part's generator, 128 bits (R421, R428; log entry 4). -/
opaque random : Nat → BitVec 128
/-- The value of a unit register read by RDUNIT (R302: its layout is not part of the interface; log entry 6). -/
opaque unitRead : Nat → BitVec 64
/-- Which of its contents an unfenced rewritten vector plays, counted from the oldest, modulo their number (R99; log entry 6). -/
opaque plays : Nat → Nat
/-- Contents of a DRAM burst after a restart that does not keep them (R437), or after a failed write (R142):
512 data, 64 check and 64 tag bits (log entry 6). -/
opaque lostBurst : Nat → Nat → BitVec 640
/-- What a full calibration measures of unit u where no command carries it (R433, R440): use number, unit (log entry 6). -/
opaque calMeasure : Nat → Nat → Measure
/-- The temperature a unit's sensor reads in a power-up, before any update of it: use number, unit, 1/16 degree (R433; log entry 6). -/
opaque sensor : Nat → Nat → Int
/-- The Keeper time, in half nanoseconds, after a PTP message that steers it (R338: by how much at once is not stated): use
number, the time before, the offset measured (log entry 6). -/
opaque steer : Nat → Nat → Int → Nat
/-- What a read whose size or contents no rule states returns (log entry 4). -/
opaque unstated : Nat → Nat

/-! ### Numbers of the rules -/

/-- One FCLK cycle in fu (R30). -/
def fclkFu : Nat := 8192
/-- The decision lag, fu (R75). -/
def decisionLag : Nat := 655360
/-- The event lag, fu (R76). -/
def eventLag : Nat := 393216
/-- The depth of the fail FIFO, records (R139). -/
def fifoDepth : Nat := 16384
/-- Entries of a region's Comb (R69). -/
def combEntries : Nat := 524288
/-- Bytes of one MiB (R10). -/
def mib : Nat := 1048576
/-- The service area of a region's DRAM (R274). -/
def serviceBytes : Nat := 268435456
/-- Slots of the log ring (R410). -/
def logSlots : Nat := 2048
/-- Entries that wait on their way to the log (R412). -/
def logQueueDepth : Nat := 32
/-- Notifies that the queue holds (R331), and how many of them may be of Kind Waggle. -/
def notifyDepth : Nat := 64
def notifyWaggle : Nat := 16

end Sys2Proof.Config
end

