-- ==== Sys2Proof/Machine/State.lean ====
section
/-!
DEFINITION. The state of the block: every register, queue, buffer, counter, mode and pin the rules give it, as plain data,
and its value at reset. Widths stand in the docstrings; a counter the part keeps in full is a Nat.
-/
namespace Sys2Proof.Machine

/-! ### Fault and Refusal -/

/-- Why a step could stop with a fault. No rule stops the block: raising a collector source, a Fold or an error response
is a next state. -/
inductive Fault where
  /-- Raised by nothing (safe). -/
  | none
  deriving DecidableEq, Repr

/-- Why a step could refuse a command. -/
inductive Refusal where
  /-- Raised by an arm of exec whose meaning is not written yet (safe). -/
  | notModelled (mnemonic : String)
  deriving DecidableEq, Repr

/-! ### Enumerations the rules name -/

/-- Region modes, in code order (R371). -/
inductive RMode where
  | off | configure | ready | run | calibrate | fold
  deriving DecidableEq, Repr

/-- RunStatus.State, in code order (R98). -/
inductive RunState where
  | idle | admitting | prefill | armed | running | holding | draining | ended
  deriving DecidableEq, Repr

/-- Run classes, in code order (R96). -/
inductive RunClass where
  | guaranteed | gapless | bestEffort
  deriving DecidableEq, Repr

/-- RunAdmission.Result, in code order (R95). -/
inductive AdmResult where
  | none | evaluating | guaranteed | gapless | bestEffort | notAdmitted
  deriving DecidableEq, Repr

/-- CombPartition.CombState, in code order (R69). -/
inductive CombState where
  | invalid | valid | scrubbing
  deriving DecidableEq, Repr

/-- Pin-die power, in code order (R373). -/
inductive DiePower where
  | unpowered | retention | active
  deriving DecidableEq, Repr

/-- CellState.PathRequest, in code order (R120). -/
inductive PathReq where
  | isolated | digital | parametric
  deriving DecidableEq, Repr

/-- CellState.PathState, in code order (R120). -/
inductive PathState where
  | isolated | digital | parametric | digitalLoad | joker | bridge | switching
  deriving DecidableEq, Repr

/-- CellState.StaticDrive, in code order (R120). -/
inductive StaticDrive where
  | off | low | high | pattern
  deriving DecidableEq, Repr

/-- The driver of a cell at an instant (R102). -/
inductive Drive where
  | off | low | high
  deriving DecidableEq, Repr

/-- The class of a pin, in the order of FirstFail.Observed (R39, R105, R118). -/
inductive Cls where
  | low | mid | high
  deriving DecidableEq, Repr

/-- What a strobe event expects, in the order of FirstFail.Expected (R118). -/
inductive Expect where
  | low | high | mid | lowOrHigh
  deriving DecidableEq, Repr

/-- TallyStatus.State, in code order (R147). -/
inductive TallyState where
  | idle | capturing | frozen | draining | held
  deriving DecidableEq, Repr

/-- TallyConfig.Mode, in code order (R132). -/
inductive TallyMode where
  | allFails | firstN | firstPerPin | cycleWindow | countOnly
  deriving DecidableEq, Repr

/-- TmuConfig.Mode, in code order (R166). -/
inductive TmuMode where
  | off | inline | armed | frequency | interval
  deriving DecidableEq, Repr

/-- TmuResult.State, in code order (R169). -/
inductive TmuState where
  | off | idle | capturing | complete | paused
  deriving DecidableEq, Repr

/-- PmuConfig.Mode, in code order (R209). -/
inductive PmuMode where
  | off | forceVoltage | forceCurrent | measureOnly
  deriving DecidableEq, Repr

/-- PmuMeasure.State, in code order (R218). -/
inductive MeasState where
  | idle | queued | settling | converting | done | aborted
  deriving DecidableEq, Repr

/-- DdsConfig.State, in code order (R227). -/
inductive DdsState where
  | stopped | armed | running | frozen
  deriving DecidableEq, Repr

/-- CalStatus.State, in code order (R201). -/
inductive CalState where
  | uncalibrated | valid | suspect | stale
  deriving DecidableEq, Repr

/-- CalStatus.Activity, in code order (R201). -/
inductive CalActivity where
  | idle | pending | preloading | tracking | calibrating | awaitSwapBack | deferred
  deriving DecidableEq, Repr

/-- JokerState.Role, in code order (R202). -/
inductive JokerRole where
  | idle | selfCal | preloading | tracking | substituting | remapped | unavailable
  deriving DecidableEq, Repr

/-- BlockCal.BackgroundState, in code order (R200). -/
inductive BgState where
  | stopped | running | paused | refFault
  deriving DecidableEq, Repr

/-- SentinelConfig.Class, in code order (R242). -/
inductive SentClass where
  | off | monitor | protection | both
  deriving DecidableEq, Repr

/-- The raw class of a Sentinel, in code order (R231, R244). -/
inductive Raw where
  | unsettled | below | inside | above
  deriving DecidableEq, Repr

/-- The monitor output of a Sentinel, in code order (R244). -/
inductive MonOut where
  | unsettled | clear | alarm | off
  deriving DecidableEq, Repr

/-- SentinelStatus.TripCause, in code order (R244). -/
inductive TripCause where
  | none | alarm | unsettled | readbackFault
  deriving DecidableEq, Repr

/-- DramConfig.State, in code order (R274). -/
inductive DramState where
  | absent | training | active | selfRefresh | serviceExit | changing
  deriving DecidableEq, Repr

/-- TrainingStatus.State, in code order (R277). -/
inductive TrainState where
  | absent | untrained | training | trained | retrainPending | outOfService
  deriving DecidableEq, Repr

/-- A port of a region's DRAM controller, in the order of R262. -/
inductive DramPort where
  | p | t | h | s
  deriving DecidableEq, Repr

/-- WaggleChannel.State, in code order (R294). -/
inductive WState where
  | disabled | enabled | suspended
  deriving DecidableEq, Repr

/-- The domain of an event (R285, R287). -/
inductive Domain where
  | regionA | regionB | chip
  deriving DecidableEq, Repr

/-- ContextStatus.State, in code order (R316). -/
inductive CtxState where
  | idle | running | committed
  deriving DecidableEq, Repr

/-- DealerState.VacateCause, in code order (R344). -/
inductive VacateCause where
  | none | yield | sessionEnd | heartbeat | epochConflict | warmReset
  deriving DecidableEq, Repr

/-- Class of a session, in the code order of SessionTable (R343). -/
inductive SessClass where
  | free | observer | dealer | secureDealer
  deriving DecidableEq, Repr

/-- DeviceMode.Mode, in code order (R377). -/
inductive DevMode where
  | dormant | standby | configure | ready | run | calibrate | fold | factory
  deriving DecidableEq, Repr

/-- DeviceMode.WakeCause, in code order (R376, R377). -/
inductive WakeCause where
  | none | powerUp | wakeFrame | sentinel | shedRecovery | warmReset
  deriving DecidableEq, Repr

/-- ModeRequest.Status, in code order (R378). -/
inductive ReqStatus where
  | idle | inProgress | done
  deriving DecidableEq, Repr

/-- Lifecycle.State, in code order (R415). -/
inductive Life where
  | blank | openLife | sealed | retired
  deriving DecidableEq, Repr

/-- Lifecycle.KeyState, in code order (R417). -/
inductive KeyState where
  | none | staged | programmed | partly | destroyed
  deriving DecidableEq, Repr

/-- Lifecycle.Status, in code order (R417). -/
inductive LifeStatus where
  | idle | programming | done | failed
  deriving DecidableEq, Repr

/-- StalenessStatus.State, in code order (R444). -/
inductive StaleState where
  | notRun | running | done | abandoned
  deriving DecidableEq, Repr

/-- StalenessStatus.Trigger, in code order (R438). -/
inductive StaleTrigger where
  | none | leaveOff | standbyWake | leaveFold
  deriving DecidableEq, Repr

/-- PtpStatus.State, in code order (R346). -/
inductive PtpState where
  | disabled | listening | uncalibrated | slave
  deriving DecidableEq, Repr

/-- The instruction the TAP holds (R426). -/
inductive TapInstr where
  | idcode | samplePreload | extest | clamp | highz | dbgctl | dbgpeek | bypass
  deriving DecidableEq, Repr

/-- The opcodes of the sequencer, in code order (R67). -/
inductive SeqOp where
  | halt | play | repeat | loop | endloop | matchOp | jump | branch | call | ret | wait | signal
  deriving DecidableEq, Repr

/-! ### Cells -/

/-- Levels (R107): µV and mV. -/
structure Levels where
  vih : Int := 0
  vil : Int := 0
  vt : Int := 0
  voh : Int := 0
  vol : Int := 0
  hyst : Nat := 0
  deriving DecidableEq, Repr

/-- ClearValues (R221): µV, and 1/1 000 of full scale for the current clamp. -/
structure ClearValues where
  vih : Int := 0
  vil : Int := 0
  vt : Int := 0
  voh : Int := 0
  vol : Int := 0
  force : Int := 0
  clampVHigh : Int := 1000000
  clampVLow : Int := -1000000
  clampI : Nat := 50
  deriving DecidableEq, Repr

/-- What the DACs of a cell, or of a Joker, stand at (R101, R204, R220): the level DACs and the force DACs as codes, the nearest to the
value asked for, the level DACs before their trims; the clamps and load currents as they are written. The reset values are the clear
values of R221, which R222 names: 0 V is code 13 107 of a level DAC and nearest to code 14 563 of the force-voltage DAC, 0 A lies
half-way between two codes of the force-current DAC (log entry 43). -/
structure Dacs where
  vih : Int := 13107
  vil : Int := 13107
  vt : Int := 13107
  voh : Int := 13107
  vol : Int := 13107
  force : Int := 14563
  clampVHigh : Int := 1000000
  clampVLow : Int := -1000000
  clampIHigh : Int := 50
  clampILow : Int := -50
  forceI : Int := 32768
  loadSource : Int := 0
  loadSink : Int := 0
  deriving DecidableEq, Repr

/-- What a drive edge does (R37, R42, R43, R52). -/
inductive EdgeAct where
  /-- The driver turns off. -/
  | off
  /-- The driver drives a data bit. -/
  | level (high : Bool)
  /-- No edge of a format: what a vector asks of the free-running clock at its start is due (R44). -/
  | clock
  deriving DecidableEq, Repr

/-- A drive edge that waits for its time at the ball (R52, R56), fu. -/
structure Edge where
  at' : Nat
  act : EdgeAct
  /-- Start of the owning vector, fu. -/
  start : Nat := 0
  deriving DecidableEq, Repr

/-- What a strobe event asks of the class (R37, R40, R42, R43). -/
inductive Ask where
  | low | high | mid | lowOrHigh
  /-- Symbol T: the opposite of the last sample. -/
  | opposite
  /-- Masked by symbol or direction. -/
  | masked
  deriving DecidableEq, Repr

/-- A strobe event that waits to be judged (R40, R53, R55). -/
structure Strobe where
  /-- Cycle number of the vector that owns it. -/
  cycle : Nat
  wraps : Nat
  index : Nat
  address : Nat
  tset : Nat
  ordinal : Nat
  ask : Ask
  /-- 0 edge strobe, 1 window strobe, 2 window with inline timing. -/
  mode : Nat
  /-- Opening and closing at the ball, fu. -/
  opens : Nat
  closes : Nat
  /-- Start of the owning vector at the ball, fu. -/
  start : Nat
  /-- FormatTerm.MaskAll for the event's vector (R110). -/
  maskAll : Bool
  /-- How far Deskew and the compare-path offset move the event from its programmed time, fu (R178, R182). -/
  shift : Int := 0
  /-- A class other than the expected one was seen inside the window so far. -/
  bad : Bool
  /-- The first accepted rising and falling event in the window: its stamp, 1/16 fu, and whether a Joker saw it
  (R155, R157). -/
  rise : Option (Int × Bool) := none
  fall : Option (Int × Bool) := none
  deriving DecidableEq, Repr

/-- An opportunity of Inline mode whose strobe event has been judged and whose window has not been decided (R156, R157). -/
structure Window where
  start : Nat
  opens : Nat
  shift : Int := 0
  /-- What the event expected; none if it was masked. -/
  expect : Option Expect
  rise : Option (Int × Bool)
  fall : Option (Int × Bool)
  deriving DecidableEq, Repr

/-- How an FRC clock is gated (R44). -/
inductive FrcGate where
  | run | low | high
  deriving DecidableEq, Repr

/-- What a vector asks of an FRC clock at its start (R44, R61). -/
inductive FrcOp where
  /-- Symbols that run the clock, gate it low or gate it high. -/
  | want (g : FrcGate)
  /-- Symbol Z. -/
  | z
  /-- The clock starts, or starts again with other parameters. -/
  | restart (d0 d1 d2 : Nat)
  /-- The cell leaves FRC. -/
  | stop
  /-- A gradual step moves the clock's edges (R181, R182). -/
  | shift (by' : Int)
  deriving DecidableEq, Repr

/-- Such a request and its time at the ball, fu. -/
structure FrcCtl where
  at' : Nat
  op : FrcOp
  deriving DecidableEq, Repr

/-- The free-running clock of a cell (R44). -/
structure Frc where
  running : Bool := false
  d0 : Nat := 0
  d1 : Nat := 0
  d2 : Nat := 0
  /-- The next scheduled edge: its time, fu, and whether it rises. -/
  next : Nat := 0
  rises : Bool := true
  /-- The gate in force, and the one the symbols ask for. -/
  gate : FrcGate := .run
  want : FrcGate := .run
  /-- The symbols ask for the driver off (Z), and the driver is off by Z. -/
  wantOff : Bool := false
  off : Bool := false
  /-- The run has ended: only the next falling edge is still made (R97). -/
  stopping : Bool := false
  /-- Requests of vectors that have not acted yet, in time order. -/
  ctl : List FrcCtl := []
  deriving DecidableEq, Repr

/-- FirstFail (R118). -/
structure FirstFail where
  cycle : Nat
  wraps : Nat
  index : Nat
  address : Nat
  tset : Nat
  observed : Cls
  expected : Expect
  ordinal : Nat
  deriving DecidableEq, Repr

/-- StrobeCounters (R113). -/
structure StrobeCounters where
  strobes : Nat := 0
  pass : Nat := 0
  fail : Nat := 0
  masked : Nat := 0
  unjudged : Nat := 0
  deriving DecidableEq, Repr

/-- A step of a path transition that waits for its switches (R121). -/
inductive PathStep where
  /-- The switches are opening; then the gap. -/
  | opening
  /-- The 200 ns gap is running. -/
  | gap
  /-- The switches of the new state are closing. -/
  | closing
  /-- A Bridge of a swap-in, and of a swap-back (R188). -/
  | bridgeIn
  | bridgeOut
  deriving DecidableEq, Repr

/-- The switches, the path and the driver of a cell (R119 to R126). -/
structure Path where
  request : PathReq := .isolated
  state : PathState := .isolated
  staticDrive : StaticDrive := .off
  driver : Drive := .off
  /-- What edges and StaticDrive ask of the driver, which a trip or an open path keeps from the ball (R124, R126). -/
  want : Drive := .off
  swDigital : Bool := false
  swPmu : Bool := false
  swJoker : Bool := false
  /-- The transition in progress and where it leads. -/
  step : Option PathStep := none
  /-- PathState before a calibration swap (R121). -/
  beforeSwap : PathState := .isolated
  substituted : Bool := false
  remapped : Bool := false
  levelsSettling : Bool := false
  deriving DecidableEq, Repr

/-- PmuConfig (R209). -/
structure PmuConfig where
  mode : PmuMode := .off
  forceVoltage : Int := 0
  forceCurrent : Int := 0
  range : Nat := 2
  clampIHigh : Int := 1000
  clampILow : Int := -1000
  clampVHigh : Int := 7000000
  clampVLow : Int := -2000000
  loadSource : Nat := 0
  loadSink : Nat := 0
  clampAlarm : Bool := false
  kelvin : Bool := true
  /-- MeasureKind: current. -/
  current : Bool := false
  samples : Nat := 16
  settle : Nat := 10
  /-- TriggerSource: Waggle. -/
  waggle : Bool := false
  clear : ClearValues := {}
  deriving DecidableEq, Repr

/-- PmuMeasure (R218) and the conversions of the measurement in progress (R215). -/
structure PmuMeasure where
  state : MeasState := .idle
  value : Int := 0
  current : Bool := false
  range : Nat := 2
  taken : Nat := 0
  minimum : Int := 0
  maximum : Int := 0
  time : Nat := 0
  sequence : BitVec 32 := 0
  triggerIgnored : Bool := false
  restarted : Bool := false
  jokerMeasured : Bool := false
  overrange : Bool := false
  shortDuring : Bool := false
  clampDuring : Bool := false
  disciplined : Bool := false
  /-- Sum, number, least and greatest of the codes converted so far. -/
  sum : Nat := 0
  count : Nat := 0
  least : Nat := 0
  greatest : Nat := 0
  /-- Flags of the measurement in progress. -/
  runRestarted : Bool := false
  runJoker : Bool := false
  runOver : Bool := false
  runShort : Bool := false
  runClamp : Bool := false
  deriving DecidableEq, Repr

/-- The output stage of a PMU that a range change brings in: its range, what it is preset to, and whether it is connected in
parallel with the active one (R212). -/
structure Stage where
  range : Nat
  force : Int
  forceI : Int
  clampVHigh : Int
  clampVLow : Int
  clampIHigh : Int
  clampILow : Int
  connected : Bool := false
  deriving DecidableEq, Repr

/-- PmuStatus (R218), live, and the causes its sticky bits have now. -/
structure PmuStatus where
  measurePaused : Bool := false
  kelvinOpen : Bool := false
  shortCircuit : Bool := false
  clampActive : Bool := false
  transitional : Bool := false
  clearHeld : Bool := true
  /-- The limiter or saturation is engaged now (R206). -/
  shortNow : Bool := false
  /-- PINnnn and KSnnn differ by more than 500 mV now (R207). -/
  kelvinNow : Bool := false
  /-- Regulation has moved to the force node (R207). -/
  forceNode : Bool := false
  /-- The implicit Restore of the first PathRequest is still owed (R225). -/
  firstRestore : Bool := true
  /-- The range of the active output stage (R212). -/
  stageRange : Nat := 2
  /-- The idle stage, once a range change has preset it (R212). -/
  idle : Option Stage := none
  deriving DecidableEq, Repr

/-- TmuConfig (R166, R167). -/
structure TmuConfig where
  mode : TmuMode := .off
  ordinalMask : Nat := 0xF
  stampMasked : Bool := false
  /-- RefMode: EventOpen. -/
  eventOpen : Bool := false
  /-- 0 Rising, 1 Falling, 2 Either, 3 Auto. -/
  polarity : Nat := 0
  holdOff : Nat := 0
  refOffset : Int := 0
  sampleLimit : Nat := 0x100000000
  gate : Nat := 3276800000
  armCount : Nat := 1
  repeats : Nat := 1
  /-- 0 Command, 1 Waggle, 2 RunStart. -/
  armSource : Nat := 0
  /-- 0 Rising, 1 Falling, 2 Either. -/
  stopPolarity : Nat := 0
  stopPosition : Nat := 0
  deriving DecidableEq, Repr

/-- TmuResult (R169) with the accumulators of R163 and the open gate (R160 to R162). -/
structure TmuResult where
  state : TmuState := .off
  count : Nat := 0
  sum : Int := 0
  sumSquares : Nat := 0
  minimum : Int := 0x7FFFFFFF
  maximum : Int := -0x80000000
  opportunities : Nat := 0
  noEdge : Nat := 0
  skipped : Nat := 0
  outOfRange : Nat := 0
  edges : Nat := 0
  armIgnored : Bool := false
  shedPaused : Bool := false
  calSuspect : Bool := false
  binTableChanged : Bool := false
  jokerStamps : Bool := false
  limitReached : Bool := false
  /-- The last accepted event of the hold-off chain, 1/16 fu (R154). -/
  lastAccepted : Option Int := none
  /-- The same for the stop stream of Interval mode (R162). -/
  lastStop : Option Int := none
  /-- The arm instant, or the opening of the present gate, 1/16 fu. -/
  gateOpen : Int := 0
  gatesLeft : Nat := 0
  /-- Qualifying events of the present gate and the first and last stamp (R161). -/
  inGate : Nat := 0
  first : Int := 0
  last : Int := 0
  /-- The pending start of Interval mode (R162). -/
  pendingStart : Option Int := none
  /-- An event of the present gate, or the pending start, came from a Joker; or from a Suspect unit. -/
  gateJoker : Bool := false
  gateSuspect : Bool := false
  deriving DecidableEq, Repr

/-- A quantity that is applied gradually: target, applied value and the target at the last accepted calibration
(R181, R183). -/
structure Walk where
  target : Int := 0
  applied : Int := 0
  accepted : Int := 0
  deriving DecidableEq, Repr

/-- The calibration of one unit: CalStatus (R201) and what R174 corrects. -/
structure CalUnit where
  state : CalState := .uncalibrated
  activity : CalActivity := .idle
  residual : Nat := 0
  calCount : Nat := 0
  lastTime : Nat := 0
  lastTemp : Int := 0
  disciplined : Bool := false
  drive : Walk := {}
  compare : Walk := {}
  /-- Offset and gain trims of the five level DACs. -/
  trims : List Walk := List.replicate 10 {}
  deferrals : Nat := 0
  rejections : Nat := 0
  retries : Nat := 0
  factoryDefaults : Bool := false
  noJoker : Bool := false
  swapBackLate : Bool := false
  tempExcursion : Bool := false
  deskew : Int := 0
  /-- The sensor's reading now, 1/16 degree (R120, R202). -/
  temp : Int := 0
  /-- The reading the temperature trigger measures from (R183). -/
  trigger : Int := 0
  /-- Stamper tap widths, 1/16 fu (R152, R177); the nominal 8 fu each before any calibration. -/
  taps : List Nat := List.replicate 128 128
  /-- Fine-delay element of each of the ten stages (R175). -/
  elements : List Nat := List.replicate 10 0
  /-- Candidate of each boundary tap of the five level DACs (R176). -/
  dacTaps : List Nat := []
  /-- The measurement of pass A, while pass B runs, and repeats so far (R191). -/
  passA : Option Measure := none
  repeats : Nat := 0
  /-- Comparator threshold offsets of VOH and VOL at the last accepted calibration, µV (R176). -/
  thresholdOffsets : List Int := [0, 0]
  /-- Selections of fine-delay elements and string taps that wait until the unit is off the ball (R174). -/
  chosen : Option (List Nat × List Nat) := none
  /-- The request came by command, and it was deferred once for want of a Joker (R184, R185). -/
  byCommand : Bool := false
  deferredOnce : Bool := false
  deriving DecidableEq, Repr

/-- SentinelConfig (R242). -/
structure SentConfig where
  cls : SentClass := .off
  low : Int := -2500000
  high : Int := 7500000
  hyst : Nat := 30
  filter : Nat := 1
  blankTrigger : Nat := 0
  blankTime : Nat := 100
  sense : Bool := false
  notifyOnset : Bool := false
  notifyEnd : Bool := false
  waggle : Bool := false
  wake : Bool := false
  logs : Bool := false
  deglitch : Nat := 0
  autoRelease : Bool := false
  releaseTime : Nat := 1000
  deriving DecidableEq, Repr

/-- A Sentinel: configuration, comparators, filter, trip and SentinelStatus (R230 to R244). -/
structure Sentinel where
  cfg : SentConfig := {}
  /-- The threshold comparators: input above the threshold; none while undecided (R231). -/
  aboveLow : Option Bool := none
  aboveHigh : Option Bool := none
  output : MonOut := .off
  /-- The raw class at the last sample (R237, R244). -/
  sampled : Raw := .unsettled
  /-- Samples the filter keeps, newest first: some true Alarm, some false Clear, none Undecided (R234). -/
  history : List (Option Bool) := []
  blanking : Bool := false
  powered : Bool := false
  tripped : Bool := false
  cause : TripCause := .none
  onsetTime : Nat := 0
  endTime : Nat := 0
  onsetDisciplined : Bool := false
  endDisciplined : Bool := false
  onsets : Nat := 0
  trips : Nat := 0
  readbackLow : Int := 0
  readbackHigh : Int := 0
  /-- The voltage last reported at the Sentinel's input, µV. -/
  input : Int := 0
  faultLow : Bool := false
  faultHigh : Bool := false
  deriving DecidableEq, Repr

/-- DdsRoute (R228). -/
structure DdsRoute where
  enable : Bool := false
  amplitude : Nat := 0
  phase : Nat := 0
  applied : Nat := 0
  /-- The term at the force-voltage DAC, µV (R226). -/
  term : Int := 0
  deriving DecidableEq, Repr

/-- One source of a collector (R392, R395, R397). Threshold 1 and WindowMs 1 000 are the resets of R397. -/
structure Source where
  sticky : Bool := false
  severe : Bool := false
  cause : Bool := false
  count : Nat := 0
  /-- Keeper times of its events since its last clear, newest first, ns. -/
  times : List Nat := []
  /-- The FCLK cycle of its last event, where FCLK ran (R392). -/
  cycle : Option Nat := none
  threshold : Nat := 1
  windowMs : Nat := 1000
  reaction : Nat := 1
  deriving DecidableEq, Repr

/-- One cell: everything of ch. 4, 6, 8 and 9 that belongs to a pin. -/
structure Cell where
  levels : Levels := {}
  formatTerm : BitVec 32 := 0
  path : Path := {}
  dacs : Dacs := {}
  /-- Drive data and last sample, in symbol terms (R38, R39). -/
  driveData : Bool := false
  lastSample : Option Cls := none
  edges : List Edge := []
  strobes : List Strobe := []
  windows : List Window := []
  /-- The last driver transition, and the closing of the last strobe event not masked by symbol, fu (R187). -/
  lastMove : Option Nat := none
  lastStrobe : Option Nat := none
  frc : Frc := {}
  /-- The VOH and VOL comparator outputs; none while the path has no previous output (R105). -/
  voh : Option Bool := none
  vol : Option Bool := none
  /-- The same of the unit that takes the pin over, during a Bridge (R106). -/
  voh2 : Option Bool := none
  vol2 : Option Bool := none
  /-- The voltage the comparator last reported at a crossing, µV. -/
  input : Int := 0
  counters : StrobeCounters := {}
  firstFail : Option FirstFail := none
  pmu : PmuConfig := {}
  meas : PmuMeasure := {}
  pmuStatus : PmuStatus := {}
  tmu : TmuConfig := {}
  tmuResult : TmuResult := {}
  cal : CalUnit := {}
  sentinel : Sentinel := {}
  dds : DdsRoute := {}
  /-- A rail trip of the cell's pin die is in force (R240). -/
  railTrip : Bool := false
  /-- Outside Run no quiet point lies before this time, fu (R187). -/
  quietFrom : Nat := 0
  /-- The cell collector's sources 0 to 5, with the reactions of R394. -/
  faults : List Source := []
  deriving DecidableEq, Repr

/-! ### Blocks -/

/-- A calibration request of a block (R184): the unit's place 0 to 15, 16 the Joker. -/
structure CalRequest where
  unit : Nat
  byCommand : Bool
  deriving DecidableEq, Repr

/-- One block: Joker, calibration engine, block ADC, DDS and collector (R200, R202, R219, R227, R404). -/
structure Block where
  role : JokerRole := .idle
  position : Option Nat := none
  /-- The ball served now or last (R201). -/
  lastBall : Nat := 0
  swaps : Nat := 0
  /-- JokerControl.RemapPosition; 0xFF none (R196). -/
  remapPosition : Nat := 0xFF
  jokerCal : CalUnit := {}
  /-- What the Joker's DACs stand at while it serves no cell, and the clear values it holds; while it serves one it has the cell's
  (R186, R222, R223). -/
  jokerDacs : Dacs := {}
  jokerClear : ClearValues := {}
  /-- The block is in RefFault (R179). -/
  refFault : Bool := false
  /-- Time of the last reading of REFV more than 0.4 % off, fu (R179). -/
  refOff : Nat := 0
  cycleCount : BitVec 32 := 0
  refvReading : Int := 0
  queue : List CalRequest := []
  /-- The unit under cell calibration: 0 to 15, 16 the Joker (R200). -/
  active : Option Nat := none
  /-- The unit the background engine visits next (R194). -/
  visit : Nat := 0
  /-- The quiet-point search for a swap-back is under way (R190). -/
  swapBack : Bool := false
  pmuConversions : Nat := 0
  readbackConversions : Nat := 0
  calConversions : Nat := 0
  /-- Last position served by the round-robin of PMU conversions (R214). -/
  lastServed : Nat := 15
  /-- A readback conversion is due and waits for a slot (R214, R238). -/
  readbackDue : Bool := false
  /-- The next threshold of the readback round: 2 x position, plus 1 for High; 32 and above the rails (R238). -/
  readbackNext : Nat := 0
  ddsFreq : Nat := 0
  ddsStart : Nat := 0
  ddsState : DdsState := .stopped
  ddsPhase : BitVec 32 := 0
  /-- Start, Stop, Resume or a trigger acts at the next update (R229). -/
  ddsNext : Option DdsState := none
  /-- Frozen by shed stage S1 (R229). -/
  ddsByShed : Bool := false
  /-- The block collector's sources 0 to 4 and the cells whose collectors failed (R402). -/
  faults : List Source := []
  failedBelow : List Nat := []
  deriving DecidableEq, Repr

/-! ### Regions -/

/-- One cell entry of a timing set (R48): FormatWord and times in fu. -/
structure CellEntry where
  format : BitVec 32 := 7
  d0 : Nat := 0
  d1 : Nat := 0
  d2 : Nat := 0
  d3 : Nat := 0
  s0 : Nat := 0
  s1 : Nat := 0
  w0 : Nat := 0
  w1 : Nat := 0
  deriving DecidableEq, Repr

/-- SetStatus (R50): 0 Empty, 1 Valid, 2 Invalid. -/
structure SetStatus where
  state : Nat := 0
  error : Nat := 0
  firstCell : Nat := 0
  deriving DecidableEq, Repr

/-- A timing set (R46). Each cell's own copy (R19) always equals it, so it stands once. -/
structure TimingSet where
  period : Nat := 0
  status : SetStatus := {}
  cells : Vector CellEntry 64 := Vector.replicate 64 {}
  deriving DecidableEq, Repr

/-- RunAdmission (R95). -/
structure Admission where
  result : AdmResult := .none
  reason : Nat := 0
  index : Nat := 0xFFFF
  position : Nat := 0xFF
  tsets : Nat := 0xFFFF
  peak : Nat := 0
  limit : Nat := 0
  supply : Nat := 0
  maxHold : Nat := 0
  /-- Timing sets and ordered pairs of sets that the last admission found selectable (R58). -/
  sets : List Nat := []
  pairs : List (Nat × Nat) := []
  deriving DecidableEq, Repr

/-- RunStatus (R98) and RunCtl's stored fields (R96). -/
structure Run where
  scheduled : Bool := false
  cls : RunClass := .guaranteed
  state : RunState := .idle
  endReason : Nat := 0
  cycle : Nat := 0
  issued : Nat := 0
  planned : Nat := 0
  holds : Nat := 0
  index : Nat := 0
  wraps : Nat := 0
  balanceVoid : Bool := false
  lastMatch : Nat := 0
  /-- The drain under way ends by Stop (0x02) or HALT (0x01) (R97). -/
  drainReason : Nat := 0
  /-- The run ends at the next vector boundary with this EndReason (R28, R96, R97). -/
  ending : Option Nat := none
  /-- Timing sets and ordered pairs of sets selectable in the admitted run (R58, R60, R107). -/
  sets : List Nat := []
  pairs : List (Nat × Nat) := []
  deriving DecidableEq, Repr

/-- StallCount (R88). -/
structure Stalls where
  stalls : Nat := 0
  stallHolds : Nat := 0
  redirectHolds : Nat := 0
  firstCycle : Option Nat := none
  firstIndex : Option Nat := none
  own : Nat := 0
  redirects : Nat := 0
  deriving DecidableEq, Repr

/-- A position in the program with its stacks, as the sequencer and the prefetcher each hold one (R73, R83). -/
structure Cursor where
  pc : Nat := 0
  loops : List (Nat × Nat) := []
  calls : List Nat := []
  deriving DecidableEq, Repr

/-- The segment that is playing (R73): the vectors still to issue. -/
structure Segment where
  op : SeqOp := .halt
  index : Nat := 0
  address : Nat := 0
  tset : Nat := 0
  left : Nat := 0
  /-- Vectors issued of the segment. -/
  issued : Nat := 0
  deriving DecidableEq, Repr

/-- An entry of the Comb: 256 data bits and the check bytes of its four D72 codewords (R36, R71). -/
structure CombEntry where
  data : BitVec 256 := 0
  chk : BitVec 32 := 0
  deriving DecidableEq, Repr

/-- A vector in the stream ring (R69, R83): the Comb entry that holds it, once it has entered, and its check bytes there. -/
structure RingEntry where
  address : Nat
  data : BitVec 256
  /-- Its burst failed its checks (R72, R256). -/
  bad : Bool
  slot : Nat := 0
  chk : BitVec 32 := 0
  deriving DecidableEq, Repr

/-- The state of a Waggle latch of the sequencer: when the delivery that set it arrived, fu (R76). -/
abbrev Latch := Option Nat

/-- Why hold vectors are being issued (R84, R85). -/
inductive HoldKind where
  | stall | redirect
  deriving DecidableEq, Repr

/-- An iteration of the MATCH that runs: the issue orders it covers, and what the results that have entered decisions
say (R75, R80). -/
structure Iteration where
  /-- Issue order of its first vector; none before that has issued. -/
  first : Option Nat := none
  count : Nat
  judged : Bool := false
  failed : Bool := false
  deriving DecidableEq, Repr

/-- The result of a strobe event on its way into decisions (R75): issue order of its vector, position, and its closing, fu. -/
structure Result where
  order : Nat
  pos : Nat
  closes : Nat
  judged : Bool
  failed : Bool
  deriving DecidableEq, Repr

/-- The sequencer of a region (R73 to R85). -/
structure Sequencer where
  cur : Cursor := {}
  seg : Segment := {}
  /-- The instruction whose vectors issue is decided and not finished. -/
  busy : Bool := false
  matched : Bool := false
  /-- The start of the next vector at the ball, fu; none before cycle 0 (R23). -/
  nextStart : Option Nat := none
  /-- The start, period and timing set of the last vector. -/
  lastStart : Nat := 0
  lastPeriod : Nat := 0
  lastTset : Nat := 0
  /-- SIGNALs that wait for the next vector, one bit a channel (R82). -/
  signals : BitVec 64 := 0
  latches : Vector Latch 64 := Vector.replicate 64 none
  /-- Fail accumulators of ConditionMask 1 to 8 (R78). -/
  accs : BitVec 8 := 0
  iterations : List Iteration := []
  hold : Option HoldKind := none
  /-- A redirect has happened and no vector of the new path has been decided yet (R84). -/
  redirected : Bool := false
  deriving DecidableEq, Repr

/-- The prefetcher (R83). -/
structure Prefetch where
  cur : Cursor := {}
  /-- Position inside the DRAM segment at its pc. -/
  offset : Nat := 0
  /-- It stands at HALT, or no DRAM segment follows on the predicted path: it fetches no more. -/
  stopped : Bool := false
  ring : List RingEntry := []
  /-- Entries that have entered the ring since it was last empty of history; the next takes the place after them (R69). -/
  entered : Nat := 0
  /-- Bursts read and checked that have not entered the ring yet. -/
  returned : List (List RingEntry) := []
  deriving DecidableEq, Repr

/-- A vector on its way: issued, not yet judged whole and processed by the Tally (R22, R127). -/
structure VecRec where
  cycle : Nat
  wraps : Nat
  index : Nat
  address : Nat
  tset : Nat
  /-- 0 PLAY, 1 REPEAT, 2 MATCH, 3 WAIT (R130). -/
  kind : Nat
  hold : Bool
  symbols : BitVec 256
  start : Nat
  period : Nat
  /-- Issue order within the run, which does not wrap. -/
  order : Nat
  failMask : BitVec 64 := 0
  /-- Positions with at least one event judged pass or fail. -/
  judged : BitVec 64 := 0
  /-- Positions one of whose fails a Joker judged (R130). -/
  joker : BitVec 64 := 0
  /-- Strobe events placed and not yet judged. -/
  pending : Nat := 0
  /-- The vector has reached the pin die (R20). -/
  applied : Bool := false
  /-- Its verdict has crossed the up link, or its up frame was lost (R21). -/
  returned : Bool := false
  lost : Bool := false
  /-- The partner region's mask for the cycle is known and not 0 (R130). -/
  partnerFail : Bool := false
  deriving DecidableEq, Repr

/-- A fail record as it is offered (R130); FirstOfRun and DropGap are known when it is written. -/
structure FailRecord where
  mask : BitVec 64
  joker : Bool
  newPins : Bool
  partner : Bool
  kind : Nat
  tset : Nat
  address : Nat
  index : Nat
  cycle : Nat
  deriving DecidableEq, Repr

/-- A record in the fail FIFO: its 192 bits, with FirstOfRun and DropGap 0, the check bytes of its three D72 codewords (R139), and the
drops by a full FIFO before it. -/
structure FifoRecord where
  data : BitVec 192
  chk : BitVec 24
  before : Nat := 0
  deriving DecidableEq, Repr

/-- A record that the drain has taken to write: its bits, and what DropGap and FirstOfRun will be (R130). -/
structure WriteRecord where
  data : BitVec 192
  gap : Nat
  first : Bool := false
  deriving DecidableEq, Repr

/-- TallyConfig (R132). -/
structure TallyConfig where
  mode : TallyMode := .allFails
  firstN : Nat := 0x400
  windowStart : Nat := 0
  windowEnd : Nat := 0xFFFFFFFFFFFF
  captureMask : BitVec 64 := 0xFFFFFFFFFFFFFFFF
  /-- AreaPolicy: Wrap. -/
  wrap : Bool := false
  threshold : Nat := 0
  startFrozen : Bool := false
  autoFreeze : Bool := false
  excludeMatchWait : Bool := false
  deriving DecidableEq, Repr

/-- TallyCounters (R148). -/
structure TallyCounters where
  failVectors : Nat := 0
  notSelected : Nat := 0
  frozenSkipped : Nat := 0
  fails : Nat := 0
  stored : Nat := 0
  dropFifoFull : Nat := 0
  dropAreaFull : Nat := 0
  dropWriteFailed : Nat := 0
  dropIntegrity : Nat := 0
  overwritten : Nat := 0
  lostMasks : Nat := 0
  deriving DecidableEq, Repr

/-- The Tally of a region (R127 to R149). -/
structure Tally where
  cfg : TallyConfig := {}
  /-- The copy taken at Start (R133). -/
  live : TallyConfig := {}
  state : TallyState := .idle
  /-- The state that Held returns to. -/
  heldFrom : TallyState := .idle
  seen : BitVec 64 := 0
  fifo : List FifoRecord := []
  /-- Records of a group, taken from the FIFO, that are not written whole yet (R140). -/
  writing : List WriteRecord := []
  /-- Bytes of the first of them that are written, and whether their write failed (R140, R142). -/
  offset : Nat := 0
  partFailed : Bool := false
  /-- What stands in the FIFO is owed a partial group (R140). -/
  flush : Bool := false
  fifoPeak : Nat := 0
  nextSlot : Nat := 0
  freezeCycle : Option Nat := none
  unfreezeCycle : Option Nat := none
  /-- Frozen spans as issue orders: from, and up to if closed (R136). -/
  spans : List (Nat × Option Nat) := []
  thresholdReached : Bool := false
  firstNComplete : Bool := false
  areaFull : Bool := false
  /-- A record of this run has been stored (R130). -/
  anyStored : Bool := false
  /-- Drops by a full FIFO since the last record accepted, and drops by the drain that the next record it takes tells of (R130). -/
  gap : Nat := 0
  drainGap : Nat := 0
  /-- FCLK cycle of the last freeze or freeze request, from whatever source (R137). -/
  freezeAt : Option Nat := none
  /-- FCLK cycle in which a Command or Waggle freeze acted: vectors issued later in that cycle lie before its span (R136). -/
  freezeReq : Option Nat := none
  /-- An unfreeze request has come in this FCLK cycle, at whose end it acts (R136, R137). -/
  unfreezeDue : Bool := false
  /-- Slots whose record was stored, for Overwritten (R141). -/
  storedSlots : List Nat := []
  counters : TallyCounters := {}
  deriving DecidableEq, Repr

/-- A burst of DRAM (R254): data, the check bytes of its eight codewords, and the tag. -/
structure Burst where
  data : BitVec 512
  chk : BitVec 64
  tag : BitVec 64
  deriving DecidableEq, Repr

/-- A regulator of a port (R262, R278). -/
structure Regulator where
  share : Nat
  depth : Nat := 256
  borrow : Bool := true
  tokens : Nat := 0
  deriving DecidableEq, Repr

/-- A port-H write that has not reached the devices (R263, R264): region burst, its data, and which bytes are written. -/
structure DramWrite where
  burst : Nat
  data : BitVec 512
  mask : BitVec 64
  deriving DecidableEq, Repr

/-- A region's DRAM: DramConfig, DramShadow, PortRegulator (R274, R275, R278) and its contents. -/
structure Dram where
  populated : Nat := 0
  inService : Nat := 0
  width : Nat := 0xFF
  ranks : Nat := 0
  density : Nat := 0xFF
  /-- Speed grade of the devices, MT/s. -/
  grade : Nat := 0
  capacity : Nat := 0
  addressMap : Nat := 0
  /-- The areas in force, and the sizes configured (R271). -/
  vectorBytes : Nat := 0
  failBytes : Nat := 0
  vectorConfigured : Nat := 0
  failConfigured : Nat := 0
  pageIdle : Nat := 64
  shadowSelect : Nat := 0
  activeShadow : Nat := 0
  dataRate : Nat := 4800
  epoch : Nat := 1
  state : DramState := .absent
  retrainLimit : Nat := 64
  shadowA : Nat := 0
  shadowB : Nat := 0
  /-- Channels, one bit each, that were out of service as the controller last lost power (R250, R261). -/
  away : Nat := 0
  regP : Regulator := { share := 700 }
  regT : Regulator := { share := 75 }
  regH : Regulator := { share := 55 }
  regS : Regulator := { share := 10 }
  /-- Port-H writes on their way, oldest first (R264, R267). -/
  writes : List DramWrite := []
  /-- Contents by place: 2 q + c for burst q of the region's channel c, rising; what is not listed was never written
  (R257, R259). -/
  bursts : List (Nat × Burst) := []
  /-- Writes to the vector space in a run that no fence covers yet, oldest first: the burst, the data it had before (none: never written), and the
  newest fence of that time (R99). -/
  rewritten : List (Nat × Option (BitVec 512) × Nat) := []
  deriving DecidableEq, Repr

/-- StalenessStatus (R444). -/
structure Staleness where
  state : StaleState := .notRun
  trigger : StaleTrigger := .none
  findings : Nat := 0
  startTime : Nat := 0
  endTime : Nat := 0
  awayTime : Nat := 0
  staleUnits : Nat := 0
  combCorrected : Nat := 0
  combUncorrectable : Nat := 0
  suspended : BitVec 64 := 0
  oldEpoch : Nat := 0
  /-- Keeper time of the region's entry to Off, Standby or Fold. -/
  away : Nat := 0
  /-- Restart the check with this trigger when S3 is restored (R443). -/
  again : Bool := false
  deriving DecidableEq, Repr

/-- CalPolicy (R199). -/
structure CalPolicy where
  deltaT : Nat := 6
  stepInterval : Nat := 4
  quietTimeout : Nat := 10
  deferRetry : Nat := 100
  autoCellCal : Bool := true
  background : Bool := true
  swapInRun : Bool := true
  deriving DecidableEq, Repr

/-- SentinelTiming (R241). -/
structure SentTiming where
  tick : Nat := 1000
  readback : Nat := 1000
  count : Nat := 0
  deriving DecidableEq, Repr

/-- The Dealer record, as the chip and each region hold it (R336). -/
structure DealerRec where
  session : Nat := 0
  hostId : Nat := 0
  priority : Nat := 0
  /-- 0 none, 1 Dealer, 2 Secure Dealer. -/
  cls : Nat := 0
  epoch : Nat := 1
  deriving DecidableEq, Repr

/-- One region. -/
structure Region where
  mode : RMode := .configure
  die : DiePower := .active
  run : Run := {}
  adm : Admission := {}
  program : List (BitVec 128) := []
  entry : Nat := 0
  anchored : Nat := 262144
  comb : CombState := .invalid
  /-- Entries of the anchored area that are not as a cleared area holds them, by index, rising (R70). -/
  combData : List (Nat × CombEntry) := []
  /-- StallPolicy: Fold (R86). -/
  stallFold : Bool := false
  restartDepth : Nat := 16
  stalls : Stalls := {}
  masks : Vector (BitVec 64) 8 := Vector.replicate 8 0xFFFFFFFFFFFFFFFF
  seq : Sequencer := {}
  fetch : Prefetch := {}
  vecs : List VecRec := []
  /-- Results that wait for the decision lag (R75). -/
  lagged : List Result := []
  calPolicy : CalPolicy := {}
  sentTiming : SentTiming := {}
  rails : Vector Sentinel 4 := Vector.replicate 4 {}
  stale : Staleness := {}
  sets : Vector TimingSet 64 := Vector.replicate 64 {}
  tally : Tally := {}
  dram : Dram := {}
  dealer : DealerRec := {}
  /-- The region collector's sources 0 to 18 and the blocks whose collectors failed (R402). -/
  faults : List Source := []
  failedBelow : List Nat := []
  /-- Holders of a region Fold that are no sources (R400). -/
  heldByStall : Bool := false
  heldByShed : Bool := false
  /-- S3 ended a run of the region in the present episode (R387). -/
  runShed : Bool := false
  /-- S3 alone put the region into Fold, and it has not come back to Ready since (R387, R443). -/
  byShed : Bool := false
  /-- The FCLK cycle in which S3 put the region into Fold (R388). -/
  shedCycle : Nat := 0
  resumeRequired : Bool := false
  /-- The mode to come back to from Standby (R374). -/
  recorded : RMode := .configure
  /-- The full calibration of region mode Calibrate is under way. -/
  fullCal : Bool := false
  deriving DecidableEq, Repr

/-! ### DDR5 channels -/

/-- DramErrors (R279). -/
structure DramErrors where
  corrected : Nat := 0
  recovered : Nat := 0
  uncorrectable : Nat := 0
  crcFail : Nat := 0
  tagMismatch : Nat := 0
  mergeZeroed : Nat := 0
  refreshSame : Nat := 0
  refreshAll : Nat := 0
  deriving DecidableEq, Repr

/-- Settings of the ten byte lanes of a channel: read and write delays, 1/64 UI, and the receiver references of the read and of the write
sweep (R269, R277). -/
structure LaneSet where
  read : List Nat := List.replicate 10 0
  write : List Nat := List.replicate 10 0
  refs : List Nat := List.replicate 20 0
  deriving DecidableEq, Repr

/-- One DDR5 channel: TrainingStatus (R277), queues, refresh and errors. -/
structure DramChan where
  state : TrainState := .absent
  lastTime : Nat := 0
  lastTemp : Int := 0
  temp : Int := 0
  trainings : Nat := 0
  eyeRead : Nat := 0
  eyeWrite : Nat := 0
  worst : Nat := 0xFF
  lanes : LaneSet := {}
  /-- Settings learnt at the rates of ShadowA and ShadowB (R275). -/
  learntA : Option LaneSet := none
  learntB : Option LaneSet := none
  disciplined : Bool := false
  lastFailed : Bool := false
  /-- The training in progress is a full one (R270). -/
  full : Bool := false
  errors : DramErrors := {}
  /-- The write queue is draining (R264). -/
  draining : Bool := false
  /-- Postponed refresh rounds of each rank of each subchannel, at 2 x subchannel + rank (R266). -/
  postponed : Vector Nat 4 := Vector.replicate 4 0
  /-- Open rows: subchannel, rank and bank (rank * Banks + bank), row (R265). -/
  openRows : List (Nat × Nat × Nat) := []
  /-- Keeper times of the corrected codewords of the last second (R270). -/
  correctedTimes : List Nat := []
  pllLocked : Bool := false
  deriving DecidableEq, Repr

/-- A fence that waits (R268): its number, its regions, and the port-H writes it waits for in each. -/
structure Fence where
  number : Nat
  regions : Nat
  waitA : Nat
  waitB : Nat
  deriving DecidableEq, Repr

/-! ### Waggle -/

/-- A Waggle channel (R294). -/
structure WChan where
  source : Nat := 0
  gate : Nat := 0
  consumers : BitVec 64 := 0
  guarded : Bool := false
  owner : Nat := 0
  minInterval : Nat := 8
  gateInvert : Bool := false
  state : WState := .disabled
  /-- Disable was written and offers are in flight (R295). -/
  closing : Bool := false
  firings : Nat := 0
  fired : Nat := 0
  delivered : Nat := 0
  merged : Nat := 0
  overrun : Nat := 0
  rateLimited : Nat := 0
  gated : Nat := 0
  coalesced : Nat := 0
  suspendedEvents : Nat := 0
  lastFireTime : Nat := 0
  /-- FCLK cycle of the last unlimited firing (R283), and of the last source event (R281). -/
  lastUnlimited : Option Nat := none
  lastEvent : Option Nat := none
  /-- Domain of the candidate of that cycle (R287). -/
  domain : Domain := .chip
  /-- The candidate waits for the end of its cycle, when its gate is decided (R282). -/
  undecided : Bool := false
  /-- Commands Fire accepted in this FCLK cycle: source events of the next one (R281). -/
  fires : Nat := 0
  deriving DecidableEq, Repr

/-- An offer in flight (R287). -/
structure Offer where
  chan : WaggleIx
  consumer : Nat
  /-- FCLK cycle of arrival. -/
  due : Nat
  /-- Keeper time of the firing, and the channel's Firings with it. -/
  time : Nat
  firings : Nat
  /-- The Keeper time of the firing was PTP-disciplined (R15). -/
  disciplined : Bool := false
  deriving DecidableEq, Repr

/-- A consumer record (R296). -/
structure Consumer where
  merged : Nat := 0
  overruns : Nat := 0
  lastSource : Nat := 0xFF
  overrun : Bool := false
  deriving DecidableEq, Repr

/-- An EVIO ball (R293): EvioConfig, the synchronised input level, a running output pulse and the FCLK cycle at which it ends, and the
level that an output drives. -/
structure Evio where
  config : BitVec 32 := 0x100
  level : Bool := false
  pulse : Bool := false
  pulseEnd : Nat := 0
  out : Bool := false
  deriving DecidableEq, Repr

/-- Waggle (ch. 11). -/
structure Waggle where
  chans : Vector WChan 64 := Vector.replicate 64 {}
  consumers : Vector Consumer 64 := Vector.replicate 64 {}
  offers : List Offer := []
  evio : Vector Evio 8 := Vector.replicate 8 {}
  deriving DecidableEq, Repr

/-! ### Ryuwister -/

/-- A requested routine (R299). -/
structure Request where
  routine : Nat
  args : List (BitVec 64)
  /-- The scope: a collector level names it. -/
  scope : ColId
  /-- A cell whose PmuStatus.Transitional the request names. -/
  transitional : Option CellIx := none
  /-- It serves the context's Waggle input (R310). -/
  event : Bool := false
  /-- It has entered, and was abandoned for a request of higher urgency after so many restarts (R306). -/
  entered : Bool := false
  restarts : Nat := 0
  /-- When its routine first entered, fu: the limit of 1 s counts from there (R308). -/
  since : Option Nat := none
  deriving DecidableEq, Repr

/-- One context (R297, R304, R316). -/
structure Context where
  state : CtxState := .idle
  running : Option Request := none
  /-- Oldest first; an abandoned routine stands before the others of its urgency (R299, R306). -/
  queue : List Request := []
  pc : Nat := 0
  /-- Address of the last word issued (R316). -/
  lastPc : Nat := 0
  regs : Vector (BitVec 64) 16 := Vector.replicate 16 0
  z : Bool := false
  n : Bool := false
  c : Bool := false
  restarts : Nat := 0
  /-- Words executed since COMMIT, COMMIT included (R307). -/
  sinceCommit : Nat := 0
  /-- Repeats of the present word after COMMIT (R307). -/
  repeats : Nat := 0
  invocations : Nat := 0
  totalRestarts : Nat := 0
  livelocks : Nat := 0
  microFaults : Nat := 0
  lastFault : Nat := 0
  eventRoutine : Nat := 0xFFFF
  /-- The Waggle input holds an unserved delivery (R303, R310). -/
  unserved : Bool := false
  halted : Bool := false
  /-- 0 ROM only, 1 bank 0, 2 bank 1 (R313). -/
  armed : Nat := 0
  /-- The FCLK cycle in which the dwell of its last word has expired (R298). -/
  readyAt : Nat := 0
  deriving DecidableEq, Repr

/-- A patch bank (R311, R313). -/
structure Bank where
  loaded : Bool := false
  version : Nat := 0
  crc : Nat := 0
  contexts : Nat := 0
  words : List (BitVec 128) := []
  /-- Entry overrides: routine number, entry (R300). -/
  overrides : List (Nat × Nat) := []
  deriving DecidableEq, Repr

/-- Ryuwister (ch. 12). -/
structure Ryuwister where
  ctxs : Vector Context 4 := Vector.replicate 4 {}
  bank0 : Bank := {}
  bank1 : Bank := {}
  contextSel : Nat := 0
  /-- Unit registers that microcode has written, by address, rising, and their values (R302). -/
  unitWrites : List (Nat × BitVec 64) := []
  /-- The context that issued last (R298); none has at reset, and the order begins with the chip context (log entry 55). -/
  lastIssuer : CtxIx := 3
  /-- The first FCLK cycle in which the engine can issue its next word (R298). -/
  nextIssue : Nat := 0
  deriving DecidableEq, Repr

/-! ### Thenko -/

/-- A refusal of a request (R360, R361). -/
structure Refuse where
  code : Nat
  reason : Nat
  deriving DecidableEq, Repr

/-- What the part answers to a request: an acceptance with payload numbers, or an error response (R321, R322). -/
inductive Reply where
  | ok (payload : List Nat)
  /-- An interim response of a transfer: AckOffset, and the credits that it grants. -/
  | interim (payload : List Nat)
  /-- A frame of the part's own: BlockData or Notify (R327, R331). -/
  | own (payload : List Nat)
  | error (r : Refuse) (idx sub : Nat)
  /-- The refusal of a Claim while a Dealer exists, which names the Dealer's session and DealerEpoch (R322, R333). -/
  | dealerExists (r : Refuse) (session epoch : Nat)
  deriving DecidableEq, Repr

/-- Where an answer goes and what it takes over from its request: port, Sequence, Secure, Type, NodeAddress and 802.1Q tag (R317, R320,
R324, R325, R423). -/
structure Ret where
  port : PortIx
  seq : Nat
  secure : Bool
  type : Nat
  node : Nat
  tag : Option Nat
  deriving DecidableEq, Repr

/-- A frame the part has sent (the model's record of its outputs, log entry 7). -/
structure Sent where
  port : PortIx
  session : Nat
  seq : Nat
  secure : Bool
  /-- Type, NodeAddress and 802.1Q tag (R317, R320, R324). -/
  type : Nat
  node : Nat
  tag : Option Nat
  reply : Reply
  deriving DecidableEq, Repr

/-- An open block transfer (R327). -/
structure Transfer where
  port : PortIx
  seq : Nat
  secure : Bool
  write : Bool
  idx : Nat
  off : Nat
  len : Nat
  /-- Bytes accepted or sent so far, counted from `off`. -/
  done : Nat := 0
  /-- Bytes in order: staged of a write (R364), or read from DRAM and not sent yet. -/
  staged : List Byte := []
  /-- Open credits of the transfer. -/
  credits : Nat := 0
  /-- Frames accepted since the last interim response. -/
  since : Nat := 0
  /-- Port-H writes of the transfer, in bursts, that no response has covered yet (R268, R327). -/
  unacked : Nat := 0
  /-- Port-H writes issued before the transfer's next read and not complete (R267). -/
  behind : Nat := 0
  /-- NodeAddress field and tag of its request. -/
  node : Nat := 0
  tag : Option Nat := none
  deriving DecidableEq, Repr

/-- A pending challenge (R421, R422). -/
structure Challenge where
  hostNonce : Nat
  partNonce : Nat
  time : Nat
  deriving DecidableEq, Repr

/-- One session (R323, R325, R343). -/
structure Session where
  attached : Bool := false
  hostId : Nat := 0
  lastPort : PortIx := 0
  lastFrame : Nat := 0
  secure : Bool := false
  /-- The next Sequence expected on THK0 and THK1 (R325). -/
  next0 : Nat := 0
  next1 : Nat := 0
  /-- The part's count of its own frames on THK0 and THK1 (R325). -/
  own0 : Nat := 0
  own1 : Nat := 0
  /-- The last 64 replies, newest first: port, Sequence, reply (R325). -/
  record : List (PortIx × Nat × Reply) := []
  /-- Requests whose answer comes later, by port and Sequence (R325). -/
  owed : List (PortIx × Nat) := []
  /-- Answers that wait for an earlier one, or for a port with a link (R325, R330). -/
  held : List (Ret × Reply) := []
  transfer : Option Transfer := none
  challenge : Option Challenge := none
  /-- The session key Ks, as a number of 32 bytes (R421). -/
  key : Nat := 0
  deriving DecidableEq, Repr

/-- A Thenko port (R341). -/
structure Port where
  /-- 0 Down, 1 1000BASE-KX, 2 10GBASE-KR, 3 25GBASE-KR. -/
  link : Nat := 0
  fec : Nat := 0
  discarded : Nat := 0
  duplicates : Nat := 0
  outOfOrder : Nat := 0
  notifyDropped : Nat := 0
  partGranted : Nat := 0
  partConsumed : Nat := 0
  partReturned : Nat := 0
  hostGranted : Nat := 0
  hostConsumed : Nat := 0
  hostReturned : Nat := 0
  pllLocked : Bool := false
  deriving DecidableEq, Repr

/-- A Notify in the queue (R331): the payload's fields and who has not acknowledged it. -/
structure Notify where
  kind : Nat
  level : Nat
  source : Nat
  disciplined : Bool
  time : Nat
  data0 : Nat
  data1 : Nat
  /-- Sessions that have not acknowledged it, with the port and Sequence it was sent under. -/
  waiting : List (Nat × PortIx × Nat)
  sentAgain : Nat := 0
  deriving DecidableEq, Repr

/-- A claim in the election window (R333). -/
structure Claim where
  session : Nat
  priority : Nat
  hostId : Nat
  /-- Where its answer goes, and whether with Secure. -/
  secure : Bool
  port : PortIx
  seq : Nat
  node : Nat := 0
  tag : Option Nat := none
  deriving DecidableEq, Repr

/-- Thenko and the Dealer (ch. 13). -/
structure Link where
  ports : Vector Port 2 := Vector.replicate 2 {}
  sessionTimeout : Nat := 10000
  nodeAddress : Nat := 0
  assigned : Bool := false
  sessions : Vector Session 16 := Vector.replicate 16 {}
  notifies : List Notify := []
  sent : List Sent := []
  heartbeatTimeout : Nat := 50
  dealer : DealerRec := {}
  vacateCause : VacateCause := .none
  lastChange : Nat := 0
  /-- The election window, if open (R333). -/
  window : Option (List Claim) := none
  /-- The Dealer was vacated and the move to Ready is owed (R380). -/
  readyOwed : Bool := false
  deriving DecidableEq, Repr

/-- PtpStatus (R346). -/
structure Ptp where
  state : PtpState := .disabled
  enable : Nat := 3
  domain : Nat := 0
  port : Nat := 0xFF
  gm : Nat := 0
  offset : Int := 0
  delay : Nat := 0
  deriving DecidableEq, Repr

/-- ScheduledStart and SyncBus (R347, R348). -/
structure Sched where
  time : Nat := 0
  regions : Nat := 0
  source : Nat := 0
  started : Bool := false
  late : Bool := false
  freeRunning : Bool := false
  startCycleTime : Nat := 0
  /-- 0 Off, 1 Receiver, 2 Master. -/
  role : Nat := 0
  deskew : Nat := 0
  lastEdge : Nat := 0
  ignored : Nat := 0
  /-- SYNC0 and SYNC1 edges the part has driven as master. -/
  drove0 : Nat := 0
  drove1 : Nat := 0
  deriving DecidableEq, Repr

/-! ### Chip services -/

/-- DeviceMode, ModeRequest and power (R374 to R378, R431 to R435). -/
structure Modes where
  vkeep : Bool := true
  /-- PORST_N is high. -/
  porst : Bool := false
  coreDie : Bool := false
  /-- TCLK and FCLK run. -/
  clocks : Bool := false
  pllLocked : Bool := false
  factory : Bool := false
  mode : DevMode := .configure
  previous : DevMode := .dormant
  lastChange : Nat := 0
  wakeCause : WakeCause := .powerUp
  regions : Nat := 3
  status : ReqStatus := .idle
  lastRequest : Nat := 0
  /-- RegionMode.Coupling: Coupled (R25). -/
  coupled : Bool := false
  /-- CLR_N and FOLDIN_N are high. -/
  clrN : Bool := true
  foldinN : Bool := true
  deriving DecidableEq, Repr

/-- PowerReport and Temperatures (R383, R384). -/
structure Report where
  total : Nat := 0
  core : Nat := 0
  dieA : Nat := 0
  dieB : Nat := 0
  volts : List Int := List.replicate 12 0
  amps : List Int := List.replicate 12 0
  energy : Nat := 0
  updateTime : Nat := 0
  tempCore : Int := 0
  tempA : Int := 0
  tempB : Int := 0
  hottest : Nat := 0xFF
  warnLimit : Int := 1680
  overTemp : Nat := 0
  deriving DecidableEq, Repr

/-- ShedStage and ShedConfig (R389, R390). -/
structure Shed where
  stage : Nat := 0
  peak : Nat := 0
  cause : BitVec 12 := 0
  lastCause : BitVec 12 := 0
  episodes : Nat := 0
  lastOnset : Nat := 0
  lastRestore : Nat := 0
  dwell : Nat := 200
  maxStage : Nat := 5
  autoRecover : Bool := true
  deriving DecidableEq, Repr

/-- A log entry (R410). -/
structure LogEntry where
  time : Nat
  disciplined : Bool
  level : Nat
  source : Nat
  data : Nat
  deriving DecidableEq, Repr

/-- An entry as the Keeper's SRAM holds it: two D72 codewords with fold word 0 (R253, R410). -/
structure LogSlot where
  word : BitVec 128
  chk : BitVec 16
  deriving DecidableEq, Repr

/-- The log ring in the Keeper (R410, R411, R413, R414). -/
structure Log where
  /-- Entries held, by slot, rising. -/
  slots : List (Nat × LogSlot) := []
  written : Nat := 0
  held : Nat := 0
  overwritten : Nat := 0
  skipped : Nat := 0
  damaged : Nat := 0
  lastClear : Nat := 0
  deriving DecidableEq, Repr

/-- The chip collector, FaultSummary and FaultInjection (R394, R406, R409). -/
structure ChipFaults where
  sources : List Source := []
  failedBelow : List Nat := []
  chipParity : Bool := false
  voidEvent : Bool := false
  voidCredit : Bool := false
  voidLog : Bool := false
  injSource : Nat := 0
  injCount : Nat := 1
  injHold : Nat := 10
  /-- The condition sources whose causes injected events hold, the longest held first. -/
  injActive : List (ColId × Nat) := []
  deriving DecidableEq, Repr

/-- Lifecycle, SessionSecurity and DebugAccess (R417, R424, R429). -/
structure Security where
  life : Life := .openLife
  /-- The lifecycle fuses, read again at a release of PORST_N (R415). -/
  lifeFuse : Life := .openLife
  keyState : KeyState := .none
  key : Nat := 0
  staging : Nat := 0
  keyCheck : Nat := 0
  status : LifeStatus := .idle
  /-- The procedure under way: true Seal, false Retire. -/
  sealing : Option Bool := none
  failures : Nat := 0
  totalFailures : Nat := 0
  lockoutUntil : Nat := 0
  lockoutS : Nat := 0
  trailerFailures : Nat := 0
  unlocked : Bool := false
  unlockNonce : Nat := 0
  unlockMinutes : Nat := 60
  unlockExpiry : Nat := 0
  refusedScans : Nat := 0
  tap : TapInstr := .idcode
  /-- What the data register captured at the last instruction, to be shifted out. -/
  tapData : Nat := 0
  deriving DecidableEq, Repr

/-- The device: everything but the queue of commands. -/
structure Device where
  /-- fu since the model's start; FCLK cycle = time / 8 192 (log entry 2). -/
  time : Nat
  /-- Keeper time in half nanoseconds (R15). -/
  keeper2 : Nat
  /-- The number of free values taken so far (log entry 4): the model's own field. -/
  free : Nat
  modes : Modes
  report : Report
  shed : Shed
  regions : Vector Region 2
  blocks : Vector Block 8
  cells : Vector Cell 128
  drams : Vector DramChan 4
  fenceIssued : BitVec 32
  fenceDone : BitVec 32
  fences : List Fence
  waggle : Waggle
  ryu : Ryuwister
  link : Link
  ptp : Ptp
  sched : Sched
  chip : ChipFaults
  log : Log
  logQueue : List LogEntry
  /-- Entries skipped since the last LogSkipped (R412). -/
  logSkipped : Nat
  sec : Security
  deriving DecidableEq, Repr

/-- The state of the machine: the device and the commands that wait, first in, first out. -/
structure State where
  pending : List Instr
  dev : Device
  deriving DecidableEq, Repr

/-! ### Reset -/

/-- A source at its default: fixed and event sources alike start clear, with the default reaction of R394. -/
def Source.ofReaction (n : Nat) : Source := { reaction := n }

/-- Default reactions of a cell collector (R394). -/
def cellReactions : List Nat := [1, 0, 1, 1, 0, 1]
/-- Default reactions of a block collector (R394). -/
def blockReactions : List Nat := [1, 1, 1, 1, 2]
/-- Default reactions of a region collector (R394). -/
def regionReactions : List Nat := [0, 4, 4, 0, 4, 0, 1, 0, 1, 1, 1, 1, 1, 1, 1, 1, 4, 1, 3]
/-- Default reactions of the chip collector (R394). -/
def chipReactions : List Nat := [5, 1, 1, 5, 1, 1, 5, 1, 5, 1, 1, 4]

/-- A cell at its defaults (R123, R222, R354; log entry 3). -/
def Cell.reset : Cell := { faults := cellReactions.map Source.ofReaction }
/-- A block at its defaults (log entry 3). -/
def Block.reset : Block := { faults := blockReactions.map Source.ofReaction }
/-- The rail Sentinels of a pin die at their defaults (R239, R245). -/
def railDefaults : Vector Sentinel 4 :=
  #v[{ cfg := { cls := .monitor, low := 7600000, high := 8400000 }, output := .unsettled },
     { cfg := { cls := .monitor, low := -3150000, high := -2850000 }, output := .unsettled },
     { cfg := { cls := .monitor, low := 3135000, high := 3465000 }, output := .unsettled },
     { cfg := { cls := .monitor, low := 712500, high := 787500 }, output := .unsettled }]
/-- A region at its defaults (log entry 3). -/
def Region.reset : Region := { rails := railDefaults, faults := regionReactions.map Source.ofReaction }
/-- The chip collector at its defaults (log entry 3). -/
def ChipFaults.reset : ChipFaults := { sources := chipReactions.map Source.ofReaction }

/-- The device right after reset: VKEEP applied, PORST_N low, every object at its default (R354, R432; log entry 3). -/
def Device.reset : Device where
  time := 0
  keeper2 := 0
  free := 0
  modes := {}
  report := {}
  shed := {}
  regions := Vector.replicate 2 Region.reset
  blocks := Vector.replicate 8 Block.reset
  cells := Vector.replicate 128 Cell.reset
  drams := Vector.replicate 4 {}
  fenceIssued := 0
  fenceDone := 0
  fences := []
  waggle := {}
  ryu := {}
  link := {}
  ptp := {}
  sched := {}
  chip := ChipFaults.reset
  log := {}
  logQueue := []
  logSkipped := 0
  sec := {}

/-- The machine right after reset: no command waits (log entry 3). -/
def State.reset : State := { pending := [], dev := Device.reset }

end Sys2Proof.Machine
end

