-- ==== Sys2Proof/Machine/Selection.lean ====
section
/-!
DEFINITION. What calibration computes from its measurements: fine-delay elements, string taps, tap widths, agreement of two
passes (R175 to R177, R191).
-/
namespace Sys2Proof.Machine

/-! ### Fine-delay elements (R175) -/

/-- The candidate of each stage in a combination: digit k in base 3. -/
def comboDigit (i k : Nat) : Nat := i / 3 ^ k % 3

/-- The error of a stage with a candidate, in the units of the delays, `fu` of which make one fu. INL(n) is the sum of the errors of
the stages whose bit is set in n. -/
def stageError (delays : List Int) (fu : Int) (k c : Nat) : Int := delays.getD (3 * k + c) 0 - fu * 2 ^ k

/-- Sums over the stages chosen so far: of the positive errors, of the negative ones without their sign, of all, and of squares. -/
structure StageSums where
  plus : Int := 0
  minus : Int := 0
  sum : Int := 0
  squares : Int := 0

/-- One stage more. -/
def StageSums.add (x : StageSums) (e : Int) : StageSums where
  plus := x.plus + max e 0
  minus := x.minus + max (-e) 0
  sum := x.sum + e
  squares := x.squares + e * e

/-- The largest |INL| over the codes of the stages. -/
def StageSums.largest (x : StageSums) : Nat := (max x.plus x.minus).toNat
/-- The sum of the squares of INL over the 1 024 codes: every stage stands in half of them, every two in a quarter. -/
def StageSums.total (x : StageSums) : Nat := (256 * (x.sum * x.sum + x.squares)).toNat

/-- The best combination so far, its largest |INL| and its sum of squares, after all that continue one choice for the stages from `k`
on, in ascending index: first the smallest largest |INL|, then the smaller rms, then the lower index. What already lies above the
best goes no further. -/
def searchCombos (delays : List Int) (fu : Int) : Nat → Nat → StageSums → Option (Nat × Nat × Nat) → Option (Nat × Nat × Nat)
  | 0, i, x, best =>
    match best with
    | none => some (i, x.largest, x.total)
    | some b => if x.largest < b.2.1 ∨ (x.largest = b.2.1 ∧ x.total < b.2.2) then some (i, x.largest, x.total) else some b
  | k + 1, i, x, best =>
    if best.any fun b => b.2.1 < x.largest then best
    else
      let next := fun (c : Nat) => searchCombos delays fu k (i + c * 3 ^ k) (x.add (stageError delays fu k c))
      next 2 (next 1 (next 0 best))

/-- The combination that is selected, its largest |INL| and its sum of squares. -/
def bestCombo (delays : List Int) (fu : Int) : Nat × Nat × Nat := (searchCombos delays fu 10 0 {} none).getD (0, 0, 0)

/-! ### String taps (R176) -/

/-- The integral error of candidate `c` of boundary `k` of one level DAC. -/
def tapError (errs : List Int) (k c : Nat) : Nat := (errs.getD (3 * k + c) 0).natAbs

/-- The candidate of least error at one boundary, the lowest among ties. -/
def leastTap (errs : List Int) (k : Nat) : Nat :=
  [1, 2].foldl (fun b c => if tapError errs k c < tapError errs k b then c else b) 0

/-- The least maximum integral error that a string of 257 boundaries can have. -/
def leastMax (errs : List Int) : Nat := ((List.range 257).map fun k => tapError errs k (leastTap errs k)).foldl max 0

/-- The candidates of one level DAC: where the one in use keeps the maximum of the whole string at its least it stays, elsewhere the
candidate of least error comes in (R176; log entry 48). -/
def stringTaps (errs : List Int) (used : List Nat) : List Nat :=
  let m := leastMax errs
  (List.range 257).map fun k => if tapError errs k (used.getD k 0) ≤ m then used.getD k 0 else leastTap errs k

/-- The candidates of every boundary of the five level DACs. -/
def bestTaps (tapErr : List Int) (used : List Nat) : List Nat :=
  (List.range 5).flatMap fun i => stringTaps ((tapErr.drop (771 * i)).take 771) (used.drop (257 * i))

/-! ### Trims of the level DACs (R176, R191) -/

/-- The error of level DAC `i` at −1.5 V (`hi` false) or at +6.0 V, summed over `n` measurements, µV; the threshold offsets of VOH and
VOL are part of theirs (R176). -/
def levelError (n : Nat) (levels offsets : List Int) (i : Nat) (hi : Bool) : Int :=
  levels.getD (2 * i + b2n hi) 0 - n * (if hi then 6000000 else -1500000) + (if 3 ≤ i then offsets.getD (i - 3) 0 else 0)

/-- The offset and gain trims, in turn, that the sum of `n` measurements calls for: each rounded half to even to 1 code (R176, R191; log
entry 48). -/
def levelTrims (n : Nat) (levels offsets : List Int) : List Int :=
  (List.range 5).flatMap fun i =>
    let low := levelError n levels offsets i false
    let high := levelError n levels offsets i true
    [roundEven (-low * 65535) (7500000 * n), roundEven ((low - high) * 65535) (7500000 * n)]

/-! ### Stamper tap widths (R177) -/

/-- Floors and remainders of 16 384 h / H. -/
def tapFloors (hits : List Nat) : List (Nat × Nat) :=
  let total := hits.sum
  hits.map fun h => (16384 * h / total, 16384 * h % total)

/-- Tap j gets one of the `left` units that go to the largest fractional parts, lowest tap first among ties. -/
def tapRank (fl : List (Nat × Nat)) (j : Nat) : Nat :=
  let mine := (fl.getD j (0, 0)).2
  (fl.zipIdx.filter fun (x, i) => decide (mine < x.2) || (decide (x.2 = mine) && decide (i < j))).length

/-- The widths, which sum to 16 384 (R177). -/
def tapWidths (hits : List Nat) : List Nat :=
  let fl := tapFloors hits
  let left := 16384 - (fl.map (·.1)).sum
  fl.zipIdx.map fun (x, j) => if tapRank fl j < left then x.1 + 1 else x.1

/-- Hits of a cell or full calibration, and of a background visit (R177). -/
def calHits : Nat := 1048576
def visitHits : Nat := 262144

/-- A collection succeeds when it has all its hits and every tap has one. -/
def hitsOk (total : Nat) (hits : List Nat) : Bool :=
  decide (hits.length = 128) && decide (hits.sum = total) && hits.all fun h => decide (h ≠ 0)

/-- Hits of a collection that succeeds, in about the proportions of a list: what a free value or a fuse gives is made a collection by
this (log entry 6). -/
def fitHits (total : Nat) (l : List Nat) : List Nat :=
  let base := (List.range 128).map fun j => l.getD j 0 + 1
  let share := base.map fun h => h * (total - 128) / base.sum + 1
  (share.headD 0 + (total - share.sum)) :: share.tail

/-- F[k] of every tap, doubled (R152). -/
def tapCenters (w : List Nat) : List Int := (List.range 128).map fun k => (2 * (w.take k).sum + w.getD k 0 : Nat)

/-- The width of tap j of the mean of two tables: their cumulative widths are averaged, rounded half to even to 1/16 fu, so that the
widths sum to 16 384 again (R177, R191; log entry 43). -/
def meanWidths (a b : List Nat) : List Nat :=
  let upTo := fun (k : Nat) => roundEven (((a.take k).sum + (b.take k).sum : Nat) : Int) 2
  (List.range 128).map fun j => (upTo (j + 1) - upTo j).toNat

/-! ### Two passes (R191) -/

/-- Two lists agree within a bound. -/
def within (a b : List Int) (bound : Nat) : Bool := (a.zip b).all fun (x, y) => decide ((x - y).natAbs ≤ bound)

/-- Every timing quantity within 2 fu and every level quantity within 500 µV; a collection with an empty tap is a failed pass
(R177). -/
def agrees (a b : Measure) : Bool :=
  hitsOk calHits a.hits && hitsOk calHits b.hits && within a.delays b.delays 32 &&
    within (tapCenters (tapWidths a.hits)) (tapCenters (tapWidths b.hits)) 64 &&
    within [a.drive, a.compare] [b.drive, b.compare] 2 && within a.levels b.levels 500 && within a.tapErr b.tapErr 500

/-- Sums of two passes. -/
def addLists (a b : List Int) : List Int := (a.zip b).map fun (x, y) => x + y

end Sys2Proof.Machine
end

