-- ==== Sys2Proof/Machine/Dac.lean ====
section
/-!
DEFINITION. Codes of the level and force DACs, and the trims of the level DACs (R101, R174, R176, R181, R204, R220, R221).
-/
namespace Sys2Proof.Machine

/-! ### Nearest codes (R101, R204) -/

/-- The code of a level DAC nearest to a value, µV (R101). Half-way between two codes the rule names neither: the model takes the upper
one (log entry 43). -/
def levelCode (v : Int) : Int := (2 * (v + 1500000) * 65535 + 7500000) / 15000000

/-- The code of the force-voltage DAC nearest to a value, µV (R204, R226); half-way the upper one (log entry 43). -/
def forceCode (v : Int) : Int := (2 * (v + 2000000) * 65535 + 9000000) / 18000000

/-- Full scale of a current range, pA (R204). -/
def fullScale (range : Nat) : Int :=
  match range with | 0 => 2000000 | 1 => 20000000 | 2 => 200000000 | 3 => 2000000000 | _ => 40000000000

/-- The code of the force-current DAC nearest to a value, pA, in a range (R204); half-way the upper one (log entry 43). -/
def currentCode (range : Nat) (i : Int) : Int :=
  let fs := fullScale range
  (2 * (i + fs) * 65535 + 2 * fs) / (4 * fs)

/-- Every DAC at its clear value (R220, R221). -/
def ClearValues.dacs (v : ClearValues) : Dacs where
  vih := levelCode v.vih
  vil := levelCode v.vil
  vt := levelCode v.vt
  voh := levelCode v.voh
  vol := levelCode v.vol
  force := forceCode v.force
  clampVHigh := v.clampVHigh
  clampVLow := v.clampVLow
  clampIHigh := v.clampI
  clampILow := -(v.clampI : Int)
  forceI := currentCode 2 0
  loadSource := 0
  loadSink := 0

/-! ### Gradually applied quantities (R181) -/

/-- Pending: target minus applied. -/
def Walk.pending (w : Walk) : Int := w.target - w.applied

/-- How far what a quantity makes of the pin lies from what its target would make of it (R181, R189; log entry 49). -/
def Walk.lag (w : Walk) : Int := w.applied - w.target

/-! ### Trims of the level DACs (R174, R176) -/

/-- What an offset trim and a gain trim add to a code: the gain trim is the amount at code 65 535 (R176; log entry 48). -/
def trimOf (code offset gain : Int) : Int := offset + roundEven (gain * code) 65535

/-- The offset trim of level DAC i, and its gain trim. -/
def CalUnit.offsetTrim (u : CalUnit) (i : Nat) : Walk := u.trims.getD (2 * i) {}
def CalUnit.gainTrim (u : CalUnit) (i : Nat) : Walk := u.trims.getD (2 * i + 1) {}

/-- The code that level DAC i of a unit is given for a nearest code: the trims applied, within 16 bits (R101, R176). -/
def CalUnit.dacCode (u : CalUnit) (i : Nat) (code : Int) : Int :=
  max 0 (min 65535 (code + trimOf code (u.offsetTrim i).applied (u.gainTrim i).applied))

/-- The level at the pin, in codes: that of the nearest code but for the trims still pending (R176, R181, R189; log entry 49). -/
def CalUnit.level (u : CalUnit) (i : Nat) (code : Int) : Int :=
  code + trimOf code (u.offsetTrim i).lag (u.gainTrim i).lag

/-- The codes that the level DACs of a unit are given (R101). -/
def CalUnit.dacCodes (u : CalUnit) (x : Dacs) : Dacs :=
  { x with vih := u.dacCode 0 x.vih, vil := u.dacCode 1 x.vil, vt := u.dacCode 2 x.vt, voh := u.dacCode 3 x.voh
           vol := u.dacCode 4 x.vol }

end Sys2Proof.Machine
end

