-- ==== Sys2Proof/Machine/Ops.lean ====
section
/-!
DEFINITION. Named operations on the device: time, access to cells, blocks, regions and channels, free values, the log queue
(R410 to R412) and the Notify queue (R331).
-/
namespace Sys2Proof.Machine

/-! ### Vectors -/

/-- A list with `f` applied to each entry and its place, counted from `i`. -/
def mapFrom {α : Type} (f : Nat → α → α) : Nat → List α → List α
  | _, [] => []
  | i, x :: xs => f i x :: mapFrom f (i + 1) xs

theorem length_mapFrom {α : Type} (f : Nat → α → α) (i : Nat) (l : List α) : (mapFrom f i l).length = l.length := by
  induction l generalizing i with
  | nil => rfl
  | cons x xs ih => simp [mapFrom, ih]

/-- A vector with `f` applied to each entry and its index. -/
def vmap {α : Type} {n : Nat} (f : Nat → α → α) (v : Vector α n) : Vector α n :=
  ⟨(mapFrom f 0 v.toList).toArray, by simp [length_mapFrom]⟩

/-! ### Lists by key, rising -/

/-- The value at a key. -/
def getKey {α : Type} (k : Nat) : List (Nat × α) → Option α
  | [] => none
  | (j, x) :: rest => if j = k then some x else getKey k rest

/-- The value at a key is put; keys stay in rising order. -/
def putKey {α : Type} (k : Nat) (v : α) : List (Nat × α) → List (Nat × α)
  | [] => [(k, v)]
  | (j, x) :: rest =>
    if k < j then (k, v) :: (j, x) :: rest else if k = j then (k, v) :: rest else (j, x) :: putKey k v rest

/-- The key is no longer listed. -/
def dropKey {α : Type} (k : Nat) (l : List (Nat × α)) : List (Nat × α) := l.filter fun x => decide (x.1 ≠ k)

/-! ### Geometry (R3, R4) -/

/-- The region of a cell (R3). -/
def cellRegion (c : CellIx) : RegionIx := ⟨c.val / 64, by omega⟩
/-- The block of a cell (R4). -/
def cellBlock (c : CellIx) : BlockIx := ⟨c.val / 16, by omega⟩
/-- The position of a cell within its block (R4). -/
def cellPos (c : CellIx) : Nat := c.val % 16
/-- The position of a cell within its region: its nibble in a region-vector (R36). -/
def cellBit (c : CellIx) : Nat := c.val % 64
/-- The region of a block (R4). -/
def blockRegion (b : BlockIx) : RegionIx := ⟨b.val / 4, by omega⟩
/-- The cell at a position of a block (R4). -/
def blockCell (b : BlockIx) (p : Nat) : CellIx := ⟨(b.val * 16 + p % 16), by omega⟩
/-- The cell at a place of a region-vector. -/
def regionCell (r : RegionIx) (p : Nat) : CellIx := ⟨r.val * 64 + p % 64, by omega⟩
/-- The region of a DDR5 channel (R253). -/
def dramRegion (n : DramIx) : RegionIx := ⟨n.val / 2, by omega⟩
/-- Channel 0 or 1 of a region. -/
def regionDram (r : RegionIx) (i : Nat) : DramIx := ⟨r.val * 2 + i % 2, by omega⟩
/-- The other region. -/
def partner (r : RegionIx) : RegionIx := if r = 0 then 1 else 0
/-- The cells of a region in ascending order. -/
def cellsOf (r : RegionIx) : List CellIx := (List.range 64).map (regionCell r)
/-- The blocks of a region in ascending order. -/
def blocksOf (r : RegionIx) : List BlockIx := (List.range 4).map fun i => ⟨r.val * 4 + i % 4, by omega⟩
/-- The cells of a block in ascending order. -/
def cellsOfBlock (b : BlockIx) : List CellIx := (List.range 16).map (blockCell b)
/-- Both regions. -/
def regionsAll : List RegionIx := [0, 1]
/-- The region a Waggle context, Ryuwister context 1 or 2 serves (R297). -/
def ctxRegion (x : CtxIx) : Option RegionIx := if x = 1 then some 0 else if x = 2 then some 1 else none
/-- The Ryuwister context of a region (R297). -/
def regionCtx (r : RegionIx) : CtxIx := if r = 0 then 1 else 2

/-! ### Parts of the device -/

/-- One cell changes. -/
def Device.onCell (d : Device) (c : CellIx) (f : Cell → Cell) : Device := { d with cells := d.cells.set c (f d.cells[c]) }
/-- Some cells change, each by itself. -/
def Device.onCells (d : Device) (p : Nat → Bool) (f : Cell → Cell) : Device :=
  { d with cells := vmap (fun i x => if p i then f x else x) d.cells }
/-- One block changes. -/
def Device.onBlock (d : Device) (b : BlockIx) (f : Block → Block) : Device :=
  { d with blocks := d.blocks.set b (f d.blocks[b]) }
/-- One region changes. -/
def Device.onRegion (d : Device) (r : RegionIx) (f : Region → Region) : Device :=
  { d with regions := d.regions.set r (f d.regions[r]) }
/-- One DDR5 channel changes. -/
def Device.onDram (d : Device) (n : DramIx) (f : DramChan → DramChan) : Device :=
  { d with drams := d.drams.set n (f d.drams[n]) }
/-- One Waggle channel changes. -/
def Device.onChan (d : Device) (k : WaggleIx) (f : WChan → WChan) : Device :=
  { d with waggle := { d.waggle with chans := d.waggle.chans.set k (f d.waggle.chans[k]) } }
/-- One Ryuwister context changes. -/
def Device.onCtx (d : Device) (x : CtxIx) (f : Context → Context) : Device :=
  { d with ryu := { d.ryu with ctxs := d.ryu.ctxs.set x (f d.ryu.ctxs[x]) } }
/-- One Thenko port changes. -/
def Device.onPort (d : Device) (p : PortIx) (f : Port → Port) : Device :=
  { d with link := { d.link with ports := d.link.ports.set p (f d.link.ports[p]) } }
/-- The place of a session number 1 to 16 in the session table (R323). -/
def sessIx (s : Nat) : Option (Fin 16) := if h : 1 ≤ s ∧ s ≤ 16 then some ⟨s - 1, by omega⟩ else none
/-- The number of the session at a place of the session table. -/
def sessNo (i : Fin 16) : Nat := i.val + 1
/-- One session changes. -/
def Device.onSession (d : Device) (i : Fin 16) (f : Session → Session) : Device :=
  { d with link := { d.link with sessions := d.link.sessions.set i (f d.link.sessions[i]) } }
/-- One region's Tally changes. -/
def Device.onTally (d : Device) (r : RegionIx) (f : Tally → Tally) : Device := d.onRegion r fun x => { x with tally := f x.tally }
/-- One region's DRAM changes. -/
def Device.onMem (d : Device) (r : RegionIx) (f : Dram → Dram) : Device := d.onRegion r fun x => { x with dram := f x.dram }
/-- One region's run record changes. -/
def Device.onRun (d : Device) (r : RegionIx) (f : Run → Run) : Device := d.onRegion r fun x => { x with run := f x.run }
/-- One region's sequencer changes. -/
def Device.onSeq (d : Device) (r : RegionIx) (f : Sequencer → Sequencer) : Device :=
  d.onRegion r fun x => { x with seq := f x.seq }

/-- A command's effect on the device; the queue is not touched (log entry 16). -/
def onDev (s : State) (f : Device → Device) : Host.Outcome State Fault Refusal := .next { s with dev := f s.dev }

/-! ### Time (R15, R30) -/

/-- The Keeper time, ns (R15). -/
def Device.now (d : Device) : Nat := d.keeper2 / 2
/-- The FCLK cycle (R30). -/
def Device.fclk (d : Device) : Nat := d.time / Config.fclkFu
/-- A time taken now counts as PTP-disciplined (R15, R338; log entry 60). -/
def Device.disciplined (d : Device) : Bool := decide (d.ptp.state = .slave) && decide (d.ptp.offset.natAbs ≤ 1000)
/-- The part takes the next free value (log entry 4). -/
def Device.nextFree (d : Device) : Device := { d with free := d.free + 1 }

/-! ### The log queue (R411, R412) -/

/-- An entry is on its way to the log, or is skipped when 32 wait (R412; log entry 66). -/
def Device.queueEntry (d : Device) (e : LogEntry) : Device :=
  if d.logQueue.length < Config.logQueueDepth then { d with logQueue := d.logQueue ++ [e] }
  else { d with logSkipped := d.logSkipped + 1, log := { d.log with skipped := d.log.skipped + 1 } }

/-- An entry with the present time (R410; log entry 66). -/
def Device.addLog (d : Device) (level source data : Nat) : Device :=
  d.queueEntry { time := d.now, disciplined := d.disciplined, level, source, data := data % 2 ^ 44 }

/-- The source code of a non-fault entry (R393). -/
def noteCode (inst num : Nat) : Nat := 4 * 2 ^ 13 + inst * 2 ^ 6 + num

/-- A non-fault entry of level Info (R412). -/
def Device.addNote (d : Device) (inst num data : Nat) : Device := d.addLog 0 (noteCode inst num) data

/-! ### The Notify queue (R331) -/

/-- Places of the session table that are attached. -/
def Device.attached (d : Device) : List (Fin 16) := (List.finRange 16).filter fun i => d.link.sessions[i].attached

/-- The part's count of its own frames on a port (R325). -/
def Session.own (x : Session) (p : PortIx) : Nat := if p = 0 then x.own0 else x.own1
/-- The part has sent one more frame of its own on a port (log entry 7). -/
def Session.sendOwn (x : Session) (p : PortIx) : Session :=
  if p = 0 then { x with own0 := (x.own0 + 1) % 2 ^ 32 } else { x with own1 := (x.own1 + 1) % 2 ^ 32 }

/-- The NodeAddress field of a frame the part sends: its own address, or before it has one the field of the request (R324). -/
def Link.nodeOf (l : Link) (node : Nat) : Nat := if l.assigned then l.nodeAddress else node

/-- The frame that an answer is (R317, R320, R324, R325, R423). -/
def Link.frame (l : Link) (i : Fin 16) (t : Ret) (r : Reply) : Sent :=
  { port := t.port, session := sessNo i, seq := t.seq, secure := t.secure, type := t.type, node := l.nodeOf t.node, tag := t.tag, reply := r }

/-- A frame that the part sends (log entry 7). -/
def Device.emit (d : Device) (f : Sent) : Device := { d with link := { d.link with sent := d.link.sent ++ [f] } }

/-- The frames of a Notify for those who have not acknowledged it, on ports with a link (R331). -/
def Link.notifyFrames (l : Link) (n : Notify) : List Sent :=
  (n.waiting.filter fun (_, p, _) => decide (l.ports[p].link ≠ 0)).map fun (s, p, q) =>
    { port := p, session := s, seq := q, secure := false, type := 8, node := l.nodeOf 0, tag := none
      reply := .own [n.kind, n.level, n.source, if n.disciplined then 1 else 0, n.time, n.data0, n.data1] }

/-- Every attached session is sent one frame of the part's own count. -/
def Device.sendOwnAll (d : Device) : Device :=
  { d with link := { d.link with sessions := vmap (fun _ x => if x.attached then x.sendOwn x.lastPort else x) d.link.sessions } }

/-- Notifies of Kind Waggle in the queue (R331). -/
def Device.waggleNotifies (d : Device) : Nat := (d.link.notifies.filter (·.kind = 3)).length

/-- A port on which some session would be sent a Notify counts one that was dropped (log entry 58). -/
def Device.countDropped (d : Device) : Device :=
  { d with link := { d.link with ports := vmap (fun i p =>
      if d.attached.any (fun s => d.link.sessions[s].lastPort.val = i) then { p with notifyDropped := p.notifyDropped + 1 } else p) d.link.ports } }

/-- A Notify to every session (R331): it enters the queue, or is counted and logged when 64 are there. With no session
attached every session has acknowledged it. -/
def Device.notifyAt (d : Device) (time : Nat) (disciplined : Bool) (kind level source data0 data1 : Nat) : Device :=
  if d.link.notifies.length < Config.notifyDepth then
    let waiting := d.attached.map fun i => (sessNo i, d.link.sessions[i].lastPort, d.link.sessions[i].own d.link.sessions[i].lastPort)
    if waiting = [] then d
    else
      let d := d.sendOwnAll
      let n : Notify := { kind, level, source, disciplined, time, data0, data1, waiting }
      { d with link := { d.link with notifies := d.link.notifies ++ [n], sent := d.link.sent ++ d.link.notifyFrames n } }
  else d.countDropped.addNote 0 8 kind

/-- A Notify whose cause is now (log entry 58). -/
def Device.notify (d : Device) (kind level source data0 data1 : Nat) : Device := d.notifyAt d.now d.disciplined kind level source data0 data1

/-- A non-fault entry of the log and a Notify that carries its Data (R331, R412). -/
def Device.note (d : Device) (kind inst num data data1 : Nat) : Device :=
  (d.addNote inst num data).notify kind 0 (noteCode inst num) data data1

/-! ### Derived readings -/

/-- A run of the region is in progress: any State but Idle and Ended (R371, R97). -/
def Run.inProgress (x : Run) : Bool := decide (x.state ≠ .idle) && decide (x.state ≠ .ended)
/-- Region mode Run or Calibrate, in which many writes are refused. -/
def Region.busyMode (x : Region) : Bool := decide (x.mode = .run) || decide (x.mode = .calibrate)
/-- Either region is in Run or Calibrate. -/
def Device.anyBusy (d : Device) : Bool := d.regions[0].busyMode || d.regions[1].busyMode
/-- The pin die of a cell has no power (R359). -/
def Device.dieOff (d : Device) (r : RegionIx) : Bool := decide (d.regions[r].die = .unpowered)
/-- The cells 0 to 63 or 64 to 127. -/
def inRegion (r : RegionIx) (i : Nat) : Bool := decide (i / 64 = r.val)
/-- The cells of a block. -/
def inBlock (b : BlockIx) (i : Nat) : Bool := decide (i / 16 = b.val)

end Sys2Proof.Machine
end

