-- ==== Sys2Proof/Machine/Events.lean ====
section
/-!
DEFINITION. Source events, candidate firings, firings and offers of Waggle channels (R281 to R287).
-/
namespace Sys2Proof.Machine

/-- The domain of a region. -/
def regionDomain (r : RegionIx) : Domain := if r = 0 then .regionA else .regionB

/-- The domain of a consumer (R287); none for a reserved code. -/
def consumerDomain (c : Nat) : Option Domain :=
  if c = 0 ∨ c = 2 ∨ c = 3 then some .regionA
  else if c = 1 ∨ c = 4 ∨ c = 5 then some .regionB
  else if 8 ≤ c ∧ c < 0x28 then some (if c % 8 < 4 then .regionA else .regionB)
  else if 0x28 ≤ c ∧ c < 0x35 then some .chip
  else none

/-- The region in which a consumer lies. -/
def consumerRegion (c : Nat) : Option RegionIx :=
  match consumerDomain c with
  | some .regionA => some 0
  | some .regionB => some 1
  | _ => none

/-- The consumers a mask names, in ascending order. -/
def maskBits (m : BitVec 64) : List Nat := (List.range 64).filter fun i => m.getLsbD i

/-- The Gate codes (R286). -/
def Device.gateLevel (d : Device) (g : Nat) : Bool :=
  if g = 0 then true
  else if h : g = 1 ∨ g = 2 then
    let x := d.regions[g - 1]'(by omega)
    decide (x.run.state = .running) || decide (x.run.state = .holding)
  else if h : g = 3 ∨ g = 4 then decide ((d.regions[g - 3]'(by omega)).tally.state = .capturing)
  else if h : 8 ≤ g ∧ g < 16 then (d.waggle.evio[g - 8]'(by omega)).level
  else false

/-- FCLK cycles from a firing to the arrival of its offer (R287). -/
def offerLatency (dom : Domain) (c : Nat) : Nat := if consumerDomain c = some dom then 4 else 6

/-- A further source event of a cycle coalesces; where its domain differs the candidate takes the chip-services domain (R281,
R287). -/
def Device.coalesce (d : Device) (k : WaggleIx) (dom : Domain) : Device :=
  d.onChan k fun x => { x with coalesced := x.coalesced + 1, domain := if x.domain = dom then dom else .chip }

/-- A candidate that has passed its gate is a firing: rate-limited, or offered to every consumer named (R282, R283). -/
def Device.firing (d : Device) (k : WaggleIx) (cy : Nat) (dom : Domain) : Device × Bool :=
  let ch := d.waggle.chans[k]
  let cs := maskBits ch.consumers
  let ch := { ch with firings := ch.firings + 1, fired := ch.fired + cs.length, lastFireTime := d.now }
  let limited := match ch.lastUnlimited with
    | some l => decide (cy < l + ch.minInterval)
    | none => false
  if limited then
    (d.onChan k fun _ => { ch with overrun := ch.overrun + cs.length, rateLimited := ch.rateLimited + cs.length }, false)
  else
    let d := d.onChan k fun _ => { ch with lastUnlimited := some cy }
    let offers := cs.map fun c => { chan := k, consumer := c, due := cy + offerLatency dom c, time := d.now,
                                    firings := ch.firings, disciplined := d.disciplined : Offer }
    ({ d with waggle := { d.waggle with offers := d.waggle.offers ++ offers } }, true)

/-- A source event of a channel: a candidate firing, whose gate is decided at the end of the FCLK cycle (R281, R282, R292). -/
def Device.chanEvent (d : Device) (k : WaggleIx) (dom : Domain) : Device :=
  let ch := d.waggle.chans[k]
  if !d.modes.clocks || decide (ch.state = .disabled) || ch.closing then d
  else if ch.state = .suspended then d.onChan k fun x => { x with suspendedEvents := x.suspendedEvents + 1 }
  else if ch.lastEvent = some d.fclk then d.coalesce k dom
  else d.onChan k fun x => { x with lastEvent := some d.fclk, domain := dom, undecided := true }

/-- Channels whose Source is a code. -/
def Device.withSource (d : Device) (code : Nat) : List WaggleIx :=
  (List.finRange 64).filter fun k => d.waggle.chans[k].source = code

/-- A source event of one channel: a SIGNAL, or a Command Fire of the cycle before (R281). -/
def Device.fireChannel (d : Device) (k : WaggleIx) (dom : Domain) : Device := d.chanEvent k dom

/-- An event of a unit, for every channel whose Source selects it (R281, R285). -/
def Device.sourceEvent (d : Device) (code : Nat) (dom : Domain) : Device :=
  (d.withSource code).foldl (fun d k => d.chanEvent k dom) d

/-! ### A Tally's unfreeze (R136, R137, R138) -/

/-- The first source code of a region's Tally: Threshold, FirstNComplete, FirstDrop, Frozen, Unfrozen (R285). -/
def tallySource (r : RegionIx) : Nat := if r = 0 then 0x08 else 0x10
/-- An event of a region's Tally (R138). -/
def Device.tallyEvent (d : Device) (r : RegionIx) (i : Nat) : Device := d.sourceEvent (tallySource r + i) (regionDomain r)

/-- The cycle and the issue order of the vector after the last one issued. Where no vector of the run has been issued the rule names
none, and the cycle is 0 (R136; log entry 41). -/
def Run.nextVector (x : Run) : Nat × Nat := (if x.issued = 0 then 0 else (x.cycle + 1) % 2 ^ 48, x.issued)

/-- The end of an FCLK cycle in which an unfreeze request came: it acts, unless a freeze came in the same cycle (R136, R137). -/
def Device.unfreezeAct (d : Device) (r : RegionIx) : Device :=
  let t := d.regions[r].tally
  if !t.unfreezeDue then d
  else
    let d := d.onTally r fun t => { t with unfreezeDue := false }
    if t.state = .frozen ∧ t.freezeAt ≠ some d.fclk then
      let (c, o) := d.regions[r].run.nextVector
      (d.onTally r fun t => { t with state := .capturing, unfreezeCycle := some c
                                     spans := t.spans.map fun (a, b) => if b = none then (a, some o) else (a, b) }).tallyEvent r 4
    else d

/-! ### The end of an FCLK cycle (R282, R284) -/

/-- A candidate firing is decided by the gate's level, after inversion: it is gated, or a firing; the answer is whether an
unlimited firing came of it (R282; log entry 17). -/
def Device.decideOne (d : Device) (k : WaggleIx) : Device × Bool :=
  let ch := d.waggle.chans[k]
  let d := d.onChan k fun x => { x with undecided := false }
  if (d.gateLevel ch.gate).xor ch.gateInvert then d.firing k d.fclk ch.domain
  else (d.onChan k fun x => { x with gated := x.gated + 1 }, false)

/-- Chain links above a channel, through channels that can fire: its candidate is settled once those are decided (R284). -/
def Device.chainLevel (d : Device) : Nat → WaggleIx → Nat
  | 0, _ => 0
  | n + 1, k =>
    let s := d.waggle.chans[k].source
    if h : 0x40 ≤ s ∧ s < 0x80 then
      let j : WaggleIx := ⟨s - 0x40, by omega⟩
      if d.waggle.chans[j].state = .disabled then 0 else 1 + d.chainLevel n j
    else 0

/-- A candidate is decided, and channels chained to it fire in the same cycle, in the domain it has (R284, R285). -/
def Device.decideChain (d : Device) (k : WaggleIx) : Device :=
  let (e, fired) := d.decideOne k
  if fired then (e.withSource (0x40 + k.val)).foldl (fun e j => e.chanEvent j d.waggle.chans[k].domain) e else e

/-- The candidates that stand so many links below the head of their chain. -/
def Device.decideLevel (d : Device) (n : Nat) : Device :=
  ((List.finRange 64).filter fun k => d.waggle.chans[k].undecided && decide (d.chainLevel 9 k = n)).foldl Device.decideChain d

/-- Channels that are being disabled and have neither a candidate nor an offer left are Disabled (R295). -/
def Device.closeChannels (d : Device) : Device :=
  let open' := d.waggle.offers.map fun o => o.chan.val
  let f := fun i (x : WChan) =>
    if x.closing && !x.undecided && !open'.contains i then { x with state := .disabled, closing := false } else x
  { d with waggle := { d.waggle with chans := vmap f d.waggle.chans } }

/-- The end of an FCLK cycle: every candidate firing of it is decided, by the levels its gate has now, the heads of chains first
(R282, R284; log entry 17). -/
def Device.endCycle (d : Device) : Device :=
  ((List.range 10).foldl Device.decideLevel ((d.unfreezeAct 0).unfreezeAct 1)).closeChannels

/-! ### The clock moves on (R30, R281, R293) -/

/-- A Command Fire of the cycle before is due (R281). -/
def Device.firesDue (d : Device) : Bool := d.waggle.chans.toList.any fun x => decide (x.fires ≠ 0)

/-- The level of an EVIO output between pulses (R293). -/
def Evio.idle (e : Evio) : Bool := e.config.getLsbD 4

/-- An output pulse has lasted its PulseWidth: the ball is at its idle level again (R293). -/
def Evio.pulseOver (e : Evio) (cy : Nat) : Evio := if e.pulse && decide (e.pulseEnd ≤ cy) then { e with pulse := false, out := e.idle } else e

/-- The Commands Fire of one channel act: one source event each (R281). -/
def Device.fireDue (d : Device) (k : WaggleIx) : Device :=
  let n := d.waggle.chans[k].fires
  (List.range n).foldl (fun d _ => d.fireChannel k .chip) (d.onChan k fun x => { x with fires := 0 })

/-- An FCLK cycle begins: output pulses end, and the Commands Fire of the cycle before act (R281, R293). -/
def Device.beginCycle (d : Device) : Device :=
  let cy := d.fclk
  let d := { d with waggle := { d.waggle with evio := vmap (fun _ e => e.pulseOver cy) d.waggle.evio } }
  (List.finRange 64).foldl Device.fireDue d

/-- The time, fu, and the Keeper time, half nanoseconds, become others: where an FCLK cycle ends with that, its candidates are decided,
and a Command Fire acts in the cycle right after its own (R281, R282; log entry 2). -/
def Device.moveClock (d : Device) (time keeper2 : Nat) : Device :=
  let set := fun (d : Device) (t k : Nat) => { d with time := t, keeper2 := k }
  let cy := time / Config.fclkFu
  if cy ≤ d.fclk then set d time keeper2
  else
    let e := d.endCycle
    let e := if e.firesDue && decide (d.fclk + 1 < cy) then
        (set e ((d.fclk + 1) * Config.fclkFu) (min keeper2 (d.keeper2 + 5))).beginCycle.endCycle
      else e
    (set e time keeper2).beginCycle

/-- One FCLK cycle passes while TCLK and FCLK run; the Keeper time runs as long as VKEEP is there (R30, R34; log entry 2). -/
def tick (d : Device) : Device :=
  d.moveClock (if d.modes.clocks then d.time + Config.fclkFu else d.time) (if d.modes.vkeep then d.keeper2 + 5 else d.keeper2)

/-- The clock stands at least at an FCLK cycle: an event of that cycle has come (log entry 2). -/
def Device.advanceTo (d : Device) (cy : Nat) : Device :=
  if d.fclk < cy then d.moveClock (cy * Config.fclkFu) (d.keeper2 + 5 * (cy - d.fclk)) else d

/-- The cycle ends, and so does the next one where a Command Fire acts in it. -/
def Device.lastFires (d : Device) : Device :=
  let e := d.endCycle
  if e.firesDue then (e.advanceTo (e.fclk + 1)).endCycle else e

/-- The domain of the events of a region's run: region A in coupled operation (R285). -/
def Device.runDomain (d : Device) (r : RegionIx) : Domain := if d.modes.coupled then .regionA else regionDomain r

/-- Channels a channel chains from, its own Source first, along Chain links (R284). -/
def Device.chainPath (d : Device) : Nat → WaggleIx → List WaggleIx
  | 0, k => [k]
  | n + 1, k =>
    let s := d.waggle.chans[k].source
    if h : 0x40 ≤ s ∧ s < 0x80 then k :: d.chainPath n ⟨s - 0x40, by omega⟩ else [k]

/-- The region a Source code lies in (R285). -/
def sourceRegion (s : Nat) : Option RegionIx :=
  if s = 1 ∨ s = 3 ∨ s = 5 ∨ (8 ≤ s ∧ s ≤ 0xC) then some 0
  else if s = 2 ∨ s = 4 ∨ s = 6 ∨ (0x10 ≤ s ∧ s ≤ 0x14) then some 1
  else if 0x18 ≤ s ∧ s < 0x28 then some (if s % 8 < 4 then 0 else 1)
  else none

/-- The region a Gate code lies in (R286). -/
def gateRegion (g : Nat) : Option RegionIx :=
  if g = 1 ∨ g = 3 then some 0 else if g = 2 ∨ g = 4 then some 1 else none

/-- Channel `k` refers to a region: by its Source, its Gate, a Chain path feeding it or a consumer (R292). -/
def Device.refersTo (d : Device) (k : WaggleIx) (r : RegionIx) : Bool :=
  let ch := d.waggle.chans[k]
  decide (gateRegion ch.gate = some r) || (maskBits ch.consumers).any (fun c => decide (consumerRegion c = some r)) ||
    (d.chainPath 9 k).any fun j => decide (sourceRegion d.waggle.chans[j].source = some r)

/-- Every Enabled channel that refers to a region becomes Suspended (R292); a channel that is being disabled stays so. -/
def Device.suspendFor (d : Device) (r : RegionIx) : Device :=
  let hit := (List.range 64).map fun i => if h : i < 64 then d.refersTo ⟨i, h⟩ r else false
  let f := fun i (x : WChan) => if x.state = .enabled ∧ hit.getD i false then { x with state := .suspended } else x
  { d with waggle := { d.waggle with chans := vmap f d.waggle.chans } }

/-- Offers of a channel in flight (R290). -/
def Device.inFlight (d : Device) (k : WaggleIx) : Nat := (d.waggle.offers.filter fun o => o.chan = k).length

end Sys2Proof.Machine
end

