-- ==== Sys2Proof/Machine/TallyOps.lean ====
section
/-!
DEFINITION. The Tally's decisions: which fail vectors are due (R131), the offer to the fail FIFO (R139), thresholds (R135)
and freezes (R136, R137), and its state at the end of a run and as DRAM service stops and resumes (R144, R145).
-/
namespace Sys2Proof.Machine

/-- FifoLevel: records accepted and neither stored nor dropped (R140, R147). -/
def Tally.level (t : Tally) : Nat := t.fifo.length + t.writing.length
/-- DroppedRecords (R148). -/
def TallyCounters.drops (c : TallyCounters) : Nat := c.dropFifoFull + c.dropAreaFull + c.dropWriteFailed + c.dropIntegrity
/-- A vector of an issue order lies in a frozen span (R136). -/
def Tally.frozenAt (t : Tally) (order : Nat) : Bool :=
  t.spans.any fun (a, b) => decide (a ≤ order) && (match b with | none => true | some e => decide (order < e))

/-- A drop has been counted: the first of the run fires FirstDrop (R138). `was` are the drops before. -/
def Device.firstDrop (d : Device) (r : RegionIx) (was : Nat) : Device :=
  if was = 0 ∧ d.regions[r].tally.counters.drops ≠ 0 then d.tallyEvent r 2 else d

/-- A freeze that acts with a FreezeCycle and the issue order of the vector there (R136); what stands ready is written (R140). -/
def Device.freezeAct (d : Device) (r : RegionIx) (cycle order : Nat) : Device :=
  (d.onTally r fun t =>
    { t with state := if t.state = .held then .held else .frozen
             heldFrom := if t.state = .held then .frozen else t.heldFrom
             freezeCycle := some cycle, spans := t.spans ++ [(order, none)], flush := true }).tallyEvent r 3

/-- The state of capture, which Held hides (R145). -/
def Tally.capture (t : Tally) : TallyState := if t.state = .held then t.heldFrom else t.state

/-- The freeze that AutoFreeze makes: it opens the span after the vector; where a request has frozen the Tally in the same cycle the
lower FreezeCycle applies, which is this one (R135, R137). -/
def Device.autoFreeze (d : Device) (r : RegionIx) (v : VecRec) : Device :=
  let t := d.regions[r].tally
  let cycle := (v.cycle + 1) % 2 ^ 48
  let d := d.onTally r fun t => { t with freezeAt := some d.fclk, freezeReq := none }
  if t.capture = .capturing then d.freezeAct r cycle (v.order + 1)
  else if t.freezeReq = some d.fclk then
    d.onTally r fun t =>
      { t with freezeCycle := some cycle
               spans := t.spans.map fun (a, b) => if b = none then (min a (v.order + 1), b) else (a, b) }
  else d

/-- A Freeze request, by Command or by Waggle (R134, R136, R137). -/
def Device.freezeRequest (d : Device) (r : RegionIx) : Device :=
  let now := d.fclk
  let d := d.onTally r fun t => { t with freezeAt := some now }
  if d.regions[r].tally.state = .capturing then
    let (c, o) := d.regions[r].run.nextVector
    (d.freezeAct r c o).onTally r fun t => { t with freezeReq := some now }
  else d

/-- A vector issues in the FCLK cycle of a freeze request: it lies before the span, which opens behind it (R136). -/
def Tally.issued (t : Tally) (fclk cycle order : Nat) : Tally :=
  if t.freezeReq = some fclk ∧ t.spans.any fun s => decide (s = (order, none)) then
    { t with freezeCycle := some ((cycle + 1) % 2 ^ 48)
             spans := t.spans.map fun s => if s = (order, none) then (order + 1, none) else s }
  else t

/-- An Unfreeze request: nothing while Capturing; it acts at the end of the FCLK cycle, unless a freeze comes in it (R137). -/
def Device.unfreezeRequest (d : Device) (r : RegionIx) : Device :=
  d.onTally r fun t => if t.state = .frozen then { t with unfreezeDue := true } else t

/-- Whether a fail vector that is neither frozen nor excluded is due (R131). -/
def Tally.due (t : Tally) (v : VecRec) : Bool :=
  match t.live.mode with
  | .allFails => true
  | .firstN => decide (t.counters.fails < t.live.firstN)
  | .firstPerPin => decide (v.failMask &&& t.live.captureMask &&& ~~~t.seen ≠ 0)
  | .cycleWindow => decide (t.live.windowStart ≤ v.cycle ∧ v.cycle ≤ t.live.windowEnd)
  | .countOnly => false

/-- The record of a fail vector (R130). -/
def Tally.record (t : Tally) (v : VecRec) (partnerFail : Bool) : FailRecord where
  mask := v.failMask
  joker := decide (v.failMask &&& v.joker ≠ 0)
  newPins := decide (t.live.mode = .firstPerPin)
  partner := partnerFail
  kind := v.kind
  tset := v.tset
  address := v.address
  index := v.index
  cycle := v.cycle

/-- The bits of a record, with FirstOfRun and DropGap 0 (R130). -/
def FailRecord.bits (q : FailRecord) : Nat :=
  q.cycle % 2 ^ 48 + q.index % 2 ^ 14 * 2 ^ 48 + q.address % 2 ^ 32 * 2 ^ 64 + q.tset % 64 * 2 ^ 96 +
    q.kind % 4 * 2 ^ 118 + b2n q.partner * 2 ^ 120 + b2n q.newPins * 2 ^ 121 + b2n q.joker * 2 ^ 122 + q.mask.toNat * 2 ^ 128

/-- A record as the FIFO stores it, in three D72 codewords (R130, R139, R253). -/
def FailRecord.store (q : FailRecord) (before : Nat) : FifoRecord :=
  { data := BitVec.ofNat 192 q.bits, chk := BitVec.ofNat 24 (protect 3 noFold q.bits), before }

/-- DRAM of a region is in self-refresh, by itself or for a frequency change: the drain pauses (R144, R272, R273). -/
def Dram.asleep (m : Dram) : Bool := decide (m.state = .selfRefresh)
def Dram.paused (m : Dram) : Bool := m.asleep || decide (m.state = .changing)

/-- The drain is paused with records in the FIFO (R144, R145). -/
def Tally.dramStopped (t : Tally) : Tally :=
  match t.state with
  | .capturing | .frozen | .draining => if t.level = 0 then t else { t with heldFrom := t.state, state := .held }
  | _ => t

/-- A due record is offered to the FIFO, and the thresholds that Fails reaches act (R131, R135, R139). -/
def Device.offerRecord (d : Device) (r : RegionIx) (v : VecRec) (partnerFail : Bool) : Device :=
  let t := d.regions[r].tally
  let paused := d.regions[r].dram.paused
  let was := t.counters.drops
  let t := { t with counters := { t.counters with fails := t.counters.fails + 1 }
                    seen := if t.live.mode = TallyMode.firstPerPin then t.seen ||| (v.failMask &&& t.live.captureMask) else t.seen }
  let t := if t.level < Config.fifoDepth then
      { t with fifo := t.fifo ++ [(t.record v partnerFail).store t.gap], gap := 0
               fifoPeak := max t.fifoPeak (t.level + 1) }
    else { t with gap := t.gap + 1, counters := { t.counters with dropFifoFull := t.counters.dropFifoFull + 1 } }
  let d := (d.onTally r fun _ => if paused then t.dramStopped else t).firstDrop r was
  let d := if t.live.mode = .firstN ∧ t.counters.fails = t.live.firstN ∧ !t.firstNComplete then
      (d.onTally r fun t => { t with firstNComplete := true }).tallyEvent r 1 else d
  if t.live.threshold ≠ 0 ∧ t.counters.fails = t.live.threshold ∧ !t.thresholdReached then
    let d := (d.onTally r fun t => { t with thresholdReached := true }).tallyEvent r 0
    if t.live.autoFreeze then d.autoFreeze r v else d
  else d

/-- The Tally processes one vector (R129, R131). -/
def Device.tallyProcess (d : Device) (r : RegionIx) (v : VecRec) (partnerFail : Bool) : Device :=
  if v.failMask = 0 then d
  else
    let t := d.regions[r].tally
    let count := fun (f : TallyCounters → TallyCounters) =>
      d.onTally r fun t => { t with counters := f { t.counters with failVectors := t.counters.failVectors + 1 } }
    if t.frozenAt v.order then count fun c => { c with frozenSkipped := c.frozenSkipped + 1 }
    else if v.failMask &&& t.live.captureMask = 0 ∨ (t.live.excludeMatchWait ∧ 2 ≤ v.kind) ∨ !t.due v then
      count fun c => { c with notSelected := c.notSelected + 1 }
    else (count id).offerRecord r v partnerFail

/-- The partner region learns whether a vector of the shared cycle count failed (R130). The mask is the one judged on the pin die, also
where the up frame that carried it was lost: of that case the rule says nothing (log entry 41). -/
def Device.tellPartner (d : Device) (r : RegionIx) (v : VecRec) : Device :=
  if d.modes.coupled then
    d.onRegion (partner r) fun x =>
      { x with vecs := x.vecs.map fun w => if w.order = v.order then { w with partnerFail := decide (v.failMask ≠ 0) } else w }
  else d

/-- The partner's mask for the same cycle is not 0 (R130; log entry 41). -/
def Device.partnerFailed (d : Device) (r : RegionIx) (v : VecRec) : Bool :=
  d.modes.coupled && (v.partnerFail ||
    d.regions[partner r].vecs.any fun w => decide (w.order = v.order) && decide (w.failMask ≠ 0))

/-- One vector leaves the list of those on their way: processed, unless it was never applied or its mask was lost (R129). -/
def Device.finishVector (d : Device) (r : RegionIx) (v : VecRec) : Device :=
  let d := (if v.applied ∧ !v.lost then d.tallyProcess r v (d.partnerFailed r v) else d).tellPartner r v
  d.onRegion r fun x => { x with vecs := x.vecs.filter fun w => w.order ≠ v.order }

/-- Vectors left at the end of a run are processed with what was judged of them (R129). -/
def Device.finishVectors (d : Device) (r : RegionIx) : Device :=
  d.regions[r].vecs.foldl (fun d v => d.finishVector r v) d

/-- The Tally at the end of a run: what it holds is written, as soon as DRAM takes it (R140, R145). -/
def Tally.runEnded (t : Tally) (paused : Bool) : Tally :=
  let t := { t with flush := true, unfreezeDue := false }
  match t.state with
  | .capturing | .frozen =>
    if t.level = 0 then { t with state := .idle, flush := false }
    else if paused then { t with state := .held, heldFrom := .draining } else { t with state := .draining }
  | .held => { t with heldFrom := .draining }
  | _ => t

/-- DRAM service resumes (R145). -/
def Tally.dramResumed (t : Tally) : Tally := if t.state = .held then { t with state := t.heldFrom } else t

end Sys2Proof.Machine
end

