-- ==== Sys2Proof/Machine/SafeState.lean ====
section
/-!
DEFINITION. What a clear, a Fold and the end of a run do to cells, blocks, DRAM, Ryuwister and the run record
(R62, R97, R116, R123, R124, R197, R217, R220, R224, R272, R309).
-/
namespace Sys2Proof.Machine

/-! ### Cells -/

/-- The output stage that a range change has preset takes the values the DACs have (R212, R213). -/
def Stage.follow (g : Stage) (x : Dacs) : Stage :=
  { g with force := x.force, forceI := x.forceI, clampVHigh := x.clampVHigh, clampVLow := x.clampVLow, clampIHigh := x.clampIHigh
           clampILow := x.clampILow }

/-- A clear reaches the cell: DACs at their clear values, in both output stages during a range change, ClearHeld set, the sine route
off (R213, R220, R224). -/
def Cell.applyClear (x : Cell) : Cell :=
  let k := x.pmu.clear.dacs
  { x with dacs := k, dds := { x.dds with enable := false, term := 0 }
           pmuStatus := { x.pmuStatus with clearHeld := true, idle := x.pmuStatus.idle.map fun g => g.follow k } }

/-- A measurement is under way or waits (R215). -/
def PmuMeasure.inProgress (m : PmuMeasure) : Bool :=
  match m.state with
  | .queued | .settling | .converting => true
  | _ => false

/-- A measurement in progress is Aborted (R217). -/
def PmuMeasure.abort (m : PmuMeasure) : PmuMeasure :=
  if m.inProgress then { m with state := .aborted } else m

/-- Of the cells of an older state, those with a measurement under way read Aborted now (R217). -/
def Device.abortedFrom (d old : Device) : Device :=
  d.onCells (fun i => (old.cells.toList[i]?).any fun x => x.meas.inProgress) fun x => { x with meas := { x.meas with state := .aborted } }

/-- A blanking trigger starts an interval, or starts it again, whatever the Filter; it matters to samples under Blanking (R234). -/
def Sentinel.blank (s : Sentinel) (trigger : Nat) : Sentinel := if s.cfg.blankTrigger = trigger then { s with blanking := true } else s
/-- A blanking trigger at the Sentinel of a cell. -/
def Cell.blankTrigger (x : Cell) (trigger : Nat) : Cell := { x with sentinel := x.sentinel.blank trigger }
/-- An accepted write or a path change is a CellWrite trigger (R234). -/
def Cell.blankWrite (x : Cell) : Cell := x.blankTrigger 2

/-- The applied value is the target at once (R181). -/
def Walk.settle (w : Walk) : Walk := { w with applied := w.target }
/-- Every gradually applied quantity of a unit stands at its target (R181). -/
def CalUnit.settle (u : CalUnit) : CalUnit :=
  { u with drive := u.drive.settle, compare := u.compare.settle, trims := u.trims.map Walk.settle }

/-- A unit leaves the ball: its corrections stand at their targets at once, and selections that waited for it take effect (R174,
R181). -/
def CalUnit.leave (u : CalUnit) : CalUnit :=
  match u.chosen with
  | some (elements, taps) => { u.settle with elements := elements, dacTaps := taps, chosen := none }
  | none => u.settle

/-- Every switch of the ball opens and the driver is off; a Pattern left by a run reads Off (R121, R124). A comparator has no
previous output from then on (R105). -/
def Cell.openAll (x : Cell) : Cell :=
  let x := if x.path.state = .isolated then x else x.blankWrite
  { x with path := { x.path with request := .isolated, state := .isolated, driver := .off, want := .off,
                                 staticDrive := if x.path.staticDrive = .pattern then .off else x.path.staticDrive,
                                 swDigital := false, swPmu := false, swJoker := false, step := none, substituted := false }
           voh := none, vol := none, voh2 := none, vol2 := none, cal := x.cal.leave }

/-- A cell as a Fold isolates it (R123). -/
def Cell.isolate (x : Cell) : Cell :=
  let x := x.openAll
  { x with path := { x.path with staticDrive := .off } }

/-- A stamper at a Fold, in Calibrate or at an Abort of its capture: undecided opportunities are discarded (R171). -/
def TmuResult.discard (t : TmuResult) : TmuResult :=
  match t.state with
  | .capturing | .complete => { t with state := .idle, inGate := 0, pendingStart := none, gatesLeft := 0 }
  | _ => t

/-- A cell under a Fold (R123, R213, R217, R224). -/
def Cell.foldSafe (x : Cell) : Cell :=
  let x := x.isolate.applyClear
  { x with meas := x.meas.abort, tmuResult := x.tmuResult.discard, windows := []
           pmuStatus := { x.pmuStatus with transitional := false, stageRange := x.pmu.range, idle := none, clampActive := false } }

/-- The free-running clock as its run ends: a clock gated low holds its level at once; any other makes its next scheduled
falling edge and no rising edge (R97). -/
def Frc.atEnd (f : Frc) : Frc :=
  if !f.running then f else if f.gate = .low then { f with running := false } else { f with stopping := true }

/-- A cell at the end of a run: pending edges and strobe events are gone, dropped ones counted as Unjudged when `drop`
(R62, R116); but at a Fold the pins keep what the last vector left, and StaticDrive reads Pattern (R124; log entry 44). -/
def Cell.atEnd (x : Cell) (drop keep : Bool) : Cell :=
  { x with counters := if drop then { x.counters with unjudged := x.counters.unjudged + x.strobes.length } else x.counters
           strobes := []
           windows := []
           edges := []
           frc := if keep then x.frc.atEnd else {}
           path := if keep then { x.path with staticDrive := .pattern } else x.path
           tmuResult := if x.tmu.mode = .inline then x.tmuResult.discard else x.tmuResult
           cal := x.cal.settle }

/-! ### Blocks -/

/-- An activity that calibration work makes (R201). -/
def CalActivity.working (a : CalActivity) : Bool :=
  match a with
  | .preloading | .tracking | .calibrating | .awaitSwapBack => true
  | _ => false

/-- A unit whose calibration is abandoned: prior values kept, not counted as rejected; its request stays pending when it
had one (R197; log entry 49). -/
def CalUnit.abandon (u : CalUnit) (requested : Bool) : CalUnit :=
  if u.activity.working then
    { u with activity := if requested then .pending else .idle, passA := none, repeats := 0, swapBackLate := false }
  else u

/-- The Joker after its work is abandoned or done: Idle, or Remapped if it was, and off the ball in the first case (R181, R197; log
entry 49). -/
def Block.freeJoker (x : Block) : Block :=
  { x with jokerCal := if x.remapPosition ≠ 0xFF then x.jokerCal else x.jokerCal.leave
           role := if x.remapPosition ≠ 0xFF then .remapped else if x.role = .unavailable then .unavailable else .idle
           position := if x.remapPosition ≠ 0xFF then some x.remapPosition else none
           swapBack := false }

/-- The Joker keeps what its DACs stand at as it lets go of the cell it served (R186). -/
def Device.keepJoker (d : Device) (b : BlockIx) : Device :=
  match d.blocks[b].position with
  | none => d
  | some p =>
    let x := d.cells[blockCell b p]
    d.onBlock b fun k => { k with jokerDacs := x.dacs, jokerClear := x.pmu.clear }

/-- The cell calibration a block is carrying out is abandoned and its request stays pending (R197; log entry 49); one that only
waits for its swap-back has been decided, and is asked for again only if it was broken off before. -/
def Device.abandonCal (d : Device) (b : BlockIx) : Device :=
  let d := d.keepJoker b
  match d.blocks[b].active with
  | none => d
  | some u =>
    let c := if u < 16 then d.cells[blockCell b u].cal else d.blocks[b].jokerCal
    let queued := d.blocks[b].queue.any fun q => q.unit = u
    let again := queued || decide (c.activity ≠ .awaitSwapBack)
    let d := if u < 16 then d.onCell (blockCell b u) fun x => { x with cal := x.cal.abandon again }
      else d.onBlock b fun x => { x with jokerCal := x.jokerCal.abandon again }
    d.onBlock b fun x =>
      { x.freeJoker with
          active := none, queue := if again && !queued then { unit := u, byCommand := c.byCommand } :: x.queue else x.queue }

/-- A unit of a full calibration, which has no request of its own, stops or no longer waits (R197). -/
def CalUnit.leaveFull (u : CalUnit) (x : Block) (p : Nat) : CalUnit :=
  if x.active = some p ∨ x.queue.any (fun q => q.unit = p) then u
  else if u.activity = .pending then { u with activity := .idle } else u.abandon false

/-- Units of one block that calibrate in a full calibration, without a request, stop (R197). -/
def Device.abandonBlock (d : Device) (b : BlockIx) : Device :=
  let k := d.blocks[b]
  let d := { d with cells := vmap (fun i x => if inBlock b i then { x with cal := x.cal.leaveFull k (i % 16) } else x) d.cells }
  d.onBlock b fun x => { x with jokerCal := x.jokerCal.leaveFull x 16 }

/-- Units of a full calibration that runs without a request stop (R197). -/
def Device.abandonFull (d : Device) (r : RegionIx) : Device :=
  let block := fun (i : Nat) => d.blocks.toList.getD (i / 16) {}
  { d with cells := vmap (fun i x => if inRegion r i then { x with cal := x.cal.leaveFull (block i) (i % 16) } else x) d.cells
           blocks := vmap (fun i x => if i / 4 = r.val then { x with jokerCal := x.jokerCal.leaveFull x 16 } else x) d.blocks
           regions := d.regions.set r { d.regions[r] with fullCal := false } }

/-- A block's DDS is stopped: every route's term is 0 (R229; log entry 46). -/
def Block.stopDds (x : Block) : Block := { x with ddsState := .stopped, ddsNext := none, ddsByShed := false }

/-! ### DRAM (R144, R270, R272) -/

/-- A channel that leaves self-refresh, or whose region leaves Run: it is retrained before any traffic if it is owed a
retraining or its temperature has moved more than 10 °C (R270, R272). -/
def DramChan.onExit (c : DramChan) : DramChan :=
  if c.state = .retrainPending ∨ (c.state = .trained ∧ (c.temp - c.lastTemp).natAbs > 160) then
    { c with state := .training, full := decide (c.state = .retrainPending) && c.full } else c

/-- Both channels of a region change. -/
def Device.onDrams (d : Device) (r : RegionIx) (f : DramChan → DramChan) : Device :=
  (d.onDram (regionDram r 0) f).onDram (regionDram r 1) f

/-- The region's channels enter self-refresh (R272): every row is closed and the Tally's drain pauses (R144). -/
def Device.dramSleep (d : Device) (r : RegionIx) : Device :=
  match d.regions[r].dram.state with
  | .absent | .selfRefresh => d
  | _ => ((d.onMem r fun m => { m with state := .selfRefresh }).onTally r Tally.dramStopped).onDrams r
      fun c => { c with openRows := [] }

/-- The region's channels leave self-refresh for good or for a service exit (R272). -/
def Device.dramWake (d : Device) (r : RegionIx) (service : Bool) : Device :=
  if d.regions[r].dram.asleep then
    (((d.onMem r fun m => { m with state := if service then .serviceExit else .active }).onTally r
      Tally.dramResumed).onDrams r DramChan.onExit)
  else if d.regions[r].dram.state = .serviceExit ∧ !service then d.onMem r fun m => { m with state := .active }
  else d

/-- Retrainings that waited for the end of a run start (R270). -/
def Device.dramRunEnded (d : Device) (r : RegionIx) : Device :=
  d.onDrams r fun c => if c.state = .retrainPending then { c with state := .training } else c

/-! ### Ryuwister (R308, R309) -/

/-- A scope lies inside another. -/
def scopeInside : ColId → ColId → Bool
  | _, .chip => true
  | .region a, .region b => a = b
  | .block a, .region b => blockRegion a = b
  | .cell a, .region b => cellRegion a = b
  | .block a, .block b => a = b
  | .cell a, .block b => cellBlock a = b
  | .cell a, .cell b => a = b
  | _, _ => false

/-- A queued measurement starts to settle once nothing holds it: no range change, no transition of the path, no stage S2
(R213, R216, R217). -/
def Cell.dequeue (x : Cell) (paused : Bool) : Cell :=
  if x.meas.state = .queued ∧ !x.pmuStatus.transitional ∧ !paused ∧ x.path.state ≠ .bridge ∧ x.path.state ≠ .switching then
    { x with meas := { x.meas with state := .settling } } else x

/-- The force-current code of a cell for the range of its active stage (R204). -/
def Cell.forceI (x : Cell) : Int :=
  if x.pmuStatus.clearHeld then x.dacs.forceI else currentCode x.pmuStatus.stageRange x.pmu.forceCurrent

/-- The range bridge has ended: the old stage is disconnected, and the stage of the new range is the active one (R212). -/
def Cell.endBridge (x : Cell) : Cell :=
  let y := { x with pmuStatus := { x.pmuStatus with transitional := false, stageRange := x.pmu.range, idle := none } }
  { y with dacs := { y.dacs with forceI := y.forceI } }

/-- Transitional of the cell a request names is cleared (R299, R308). -/
def Device.clearTransitional (d : Device) (q : Request) : Device :=
  match q.transitional with
  | some c => d.onCell c fun x =>
    x.endBridge.dequeue (2 ≤ d.shed.stage)
  | none => d

/-- A requester holds a request for the same routine and scope already (R299). An event routine that has entered has served its
delivery, so that the next delivery makes a request of its own (R310; log entry 56). -/
def Request.holds (o q : Request) : Bool :=
  decide (o.routine = q.routine) && decide (o.scope = q.scope) && decide (o.event = q.event) && !(o.event && o.entered)

/-- A request enters a context's queue; no requester holds two for the same routine and scope (R299; log entry 56). -/
def Device.requestRoutine (d : Device) (x : CtxIx) (q : Request) : Device :=
  d.onCtx x fun c => if c.queue.any fun o => o.holds q then c else { c with queue := c.queue ++ [q] }

/-- A context without its running routine. -/
def Context.ended (x : Context) : Context :=
  { x with state := .idle, running := none, restarts := 0, sinceCommit := 0, repeats := 0 }

/-- Routine and requests of a context whose scope a Fold covers end (R308, R309); an event routine has been served. -/
def Device.endRoutines (d : Device) (x : CtxIx) (scope : ColId) : Device :=
  let c := d.ryu.ctxs[x]
  let gone := c.queue.filter fun q => scopeInside q.scope scope
  let d := gone.foldl Device.clearTransitional d
  let d := d.onCtx x fun c => { c with queue := c.queue.filter (fun q => !scopeInside q.scope scope)
                                       unserved := c.unserved && !gone.any (·.event) }
  match c.running with
  | some q => if scopeInside q.scope scope then (d.clearTransitional q).onCtx x Context.ended else d
  | none => d

/-! ### The end of a run (R97) -/

/-- The sequencer and the prefetcher stand still. -/
def Region.haltSeq (x : Region) : Region :=
  { x with seq := { x.seq with busy := false, hold := none, nextStart := none, iterations := [], redirected := false }
           fetch := { x.fetch with ring := [], returned := [], stopped := true }
           lagged := [] }

/-- SIGNALs that wait fire in ascending channel order (R82). -/
def Device.fireSignals (d : Device) (r : RegionIx) : Device :=
  let m := d.regions[r].seq.signals
  let d := d.onSeq r fun q => { q with signals := 0 }
  ((List.finRange 64).filter fun k => m.getLsbD k.val).foldl (fun d k => d.fireChannel k (d.runDomain r)) d

/-- The run of a region ends (R97): its events are dropped when `drop`, the vectors left are processed (R129), the pins
keep the last vector's state but at a Fold, and the region returns to Ready but at a Fold (log entry 32). -/
def Device.endRun (d : Device) (r : RegionIx) (reason : Nat) (drop : Bool) : Device :=
  if !d.regions[r].run.inProgress then d
  else
    let keep := decide (reason ≠ 4 ∧ reason ≠ 5 ∧ reason ≠ 7)
    let d := d.onCells (inRegion r) fun x => x.atEnd drop keep
    let d := d.finishVectors r
    let d := { d with blocks := vmap (fun i x => if i / 4 = r.val then { x with jokerCal := x.jokerCal.settle } else x) d.blocks }
    let d := d.onRegion r fun x =>
      { x.haltSeq with run := { x.run with state := .ended, endReason := reason, ending := none }
                       tally := x.tally.runEnded x.dram.paused
                       mode := if x.mode = .run ∧ keep then .ready else x.mode }
    let d := if keep then d.dramRunEnded r else d
    let d := d.fireSignals r
    let issued := d.regions[r].run.issued
    (d.note 4 r.val 4 reason issued).sourceEvent (0x03 + r.val) (d.runDomain r)

/-- Vectors of the run play, so that a vector boundary is ahead (R97). -/
def Run.playing (x : Run) : Bool :=
  match x.state with
  | .running | .holding | .draining => true
  | _ => false

/-- A coupled run ends at the partner's Fold: at the next vector boundary where its vectors play (R28; log entries 32, 38). -/
def Device.endPartner (d : Device) (r : RegionIx) : Device :=
  let g := partner r
  if !d.modes.coupled then d
  else if d.regions[g].run.playing then d.onRun g fun x => { x with ending := x.ending.or (some 6) }
  else d.endRun g 6 true

end Sys2Proof.Machine
end

