-- ==== Sys2Proof/Machine/Fold.lean ====
section
/-!
DEFINITION. Collectors, classification, reactions and Folds (R391 to R403), region modes and the DeviceMode they give
(R371 to R374).
-/
namespace Sys2Proof.Machine

/-! ### DeviceMode (R374, R377) -/

/-- Sources of a collector (R394). -/
def Device.sources (d : Device) : ColId → List Source
  | .chip => d.chip.sources
  | .region r => d.regions[r].faults
  | .block b => d.blocks[b].faults
  | .cell c => d.cells[c].faults

/-- The sources of a collector change. -/
def Device.onSources (d : Device) (col : ColId) (f : List Source → List Source) : Device :=
  match col with
  | .chip => { d with chip := { d.chip with sources := f d.chip.sources } }
  | .region r => d.onRegion r fun x => { x with faults := f x.faults }
  | .block b => d.onBlock b fun x => { x with faults := f x.faults }
  | .cell c => d.onCell c fun x => { x with faults := f x.faults }

/-- One source of a collector changes. -/
def Device.onSource (d : Device) (col : ColId) (n : Nat) (f : Source → Source) : Device :=
  d.onSources col (mapFrom (fun i s => if i = n then f s else s) 0)

/-- The region a collector belongs to; the chip collector has none (R410). -/
def colRegion : ColId → Option RegionIx
  | .chip => none
  | .region r => some r
  | .block b => some (blockRegion b)
  | .cell c => some (cellRegion c)

/-- The source code of source `n` of a collector (R393). -/
def sourceCode (col : ColId) (n : Nat) : Nat :=
  match col with
  | .chip => n
  | .region r => 2 ^ 13 + r.val * 2 ^ 6 + n
  | .block b => 2 * 2 ^ 13 + b.val * 2 ^ 6 + n
  | .cell c => 3 * 2 ^ 13 + c.val * 2 ^ 6 + n

/-- A parity source, whose reaction acts on collectors below (R402). -/
def isParity : ColId → Nat → Bool
  | .block _, 4 => true
  | .region _, 18 => true
  | .chip, 11 => true
  | _, _ => false

/-- A condition source (R392, R394). -/
def isCondition (col : ColId) (n : Nat) : Bool :=
  match col with
  | .cell _ => [1, 2, 3].contains n
  | .block _ => [0, 1, 2, 3].contains n
  | .region _ => [11, 12].contains n
  | .chip => [0, 1, 3, 7, 8].contains n

/-- A fixed source (R392, R394). -/
def isFixed (col : ColId) (n : Nat) : Bool :=
  match col with
  | .cell _ => false
  | .block _ => n == 4
  | .region _ => [1, 2, 4, 9, 16, 18].contains n
  | .chip => [0, 3, 6, 8, 11].contains n

/-- The scope a reaction code names at a collector; none for a code without a Fold or narrower than the collector (R396). -/
def reactionScope (col : ColId) (code : Nat) : Option ColId :=
  match code, col with
  | 2, .cell c => some (.cell c)
  | 3, .cell c => some (.block (cellBlock c))
  | 3, .block b => some (.block b)
  | 4, .cell c => some (.region (cellRegion c))
  | 4, .block b => some (.region (blockRegion b))
  | 4, .region r => some (.region r)
  | 5, _ => some .chip
  | _, _ => none

/-- Some severe source of a collector, no parity source, reacts with a Fold of a scope (R400; log entry 64). -/
def Device.severeFor (d : Device) (col scope : ColId) : Bool :=
  ((d.sources col).zipIdx).any fun (s, n) => s.severe && !isParity col n && decide (reactionScope col s.reaction = some scope)

/-- A severe parity source of a collector holds the Fold of what failed below (R402). -/
def Device.parityHolds (d : Device) (col : ColId) (n : Nat) (below : List Nat) (i : Nat) : Bool :=
  ((d.sources col)[n]?.elim false (·.severe)) && below.contains i

/-- Something holds a Fold at the cell itself (R400). -/
def Device.cellHeld (d : Device) (c : CellIx) : Bool :=
  d.severeFor (.cell c) (.cell c) || d.parityHolds (.block (cellBlock c)) 4 d.blocks[cellBlock c].failedBelow c.val
/-- Something holds a Fold at the block itself. -/
def Device.blockHeld (d : Device) (b : BlockIx) : Bool :=
  d.severeFor (.block b) (.block b) || (cellsOfBlock b).any (fun c => d.severeFor (.cell c) (.block b)) ||
    d.parityHolds (.region (blockRegion b)) 18 d.regions[blockRegion b].failedBelow b.val
/-- Something holds a Fold at the region itself: a source, S3, a stall Fold or a parity Fold (R400; log entry 64). -/
def Device.regionHeld (d : Device) (r : RegionIx) : Bool :=
  d.regions[r].heldByStall || d.regions[r].heldByShed || d.severeFor (.region r) (.region r) ||
    (blocksOf r).any (fun b => d.severeFor (.block b) (.region r)) ||
    (cellsOf r).any (fun c => d.severeFor (.cell c) (.region r)) || d.parityHolds .chip 11 d.chip.failedBelow r.val
/-- Something holds a Fold at the chip (R400; log entry 64). -/
def Device.chipHeld (d : Device) : Bool :=
  d.chip.chipParity || d.severeFor .chip .chip || regionsAll.any fun r =>
    d.severeFor (.region r) .chip || (blocksOf r).any (fun b => d.severeFor (.block b) .chip) ||
      (cellsOf r).any (fun c => d.severeFor (.cell c) .chip)

/-- A Fold whose scope covers a scope is in force (R400). -/
def Device.covered (d : Device) : ColId → Bool
  | .chip => d.chipHeld
  | .region r => d.chipHeld || d.regionHeld r
  | .block b => d.chipHeld || d.regionHeld (blockRegion b) || d.blockHeld b
  | .cell c => d.chipHeld || d.regionHeld (cellRegion c) || d.blockHeld (cellBlock c) || d.cellHeld c

/-- CellState.Status.Folded (R120, R400). -/
def Device.folded (d : Device) (c : CellIx) : Bool := d.covered (.cell c)

/-- FOLDOUT_N is driven low (R399). -/
def Device.foldOut (d : Device) : Bool := d.chipHeld || d.regionHeld 0 || d.regionHeld 1

/-- The DeviceMode that the region modes and the power state give (R374). -/
def Device.derivedMode (d : Device) : DevMode :=
  let a := d.regions[0].mode
  let b := d.regions[1].mode
  if d.modes.factory then .factory
  else if !d.modes.coreDie then .dormant
  else if !d.modes.clocks then .standby
  else if d.chipHeld then .fold
  else if a = .run ∨ b = .run then .run
  else if a = .calibrate ∨ b = .calibrate then .calibrate
  else if a = .configure ∨ b = .configure then .configure
  else if a = .ready ∨ b = .ready then .ready
  else if a = .fold ∨ b = .fold then .fold
  else .configure

/-- A DeviceMode is entered: PreviousMode, LastChange and the ModeChange entry (R377, R412). -/
def Device.enterMode (d : Device) (m : DevMode) : Device :=
  if m = d.modes.mode then d
  else
    let old := d.modes.mode
    ({ d with modes := { d.modes with mode := m, previous := old, lastChange := d.now } }).addNote 0 0
      (m.ctorIdx + old.ctorIdx * 2 ^ 8)

/-- DeviceMode follows the region modes (R374). -/
def Device.refreshMode (d : Device) : Device := d.enterMode d.derivedMode

/-! ### Folds (R398) -/

/-- A remapped Joker that served a cell is off its ball (R123, R181). -/
def Block.leaveBall (x : Block) : Block := { x with jokerCal := x.jokerCal.leave }

/-- A Fold of a cell, and of a Joker that serves it: its calibration is abandoned, one of a full calibration too (R197). -/
def Device.foldCell (d : Device) (c : CellIx) : Device :=
  let b := cellBlock c
  let x := d.blocks[b]
  let d := if x.active = some (cellPos c) then d.abandonCal b
    else d.onCell c fun y => { y with cal := y.cal.leaveFull x (cellPos c) }
  let d := if x.remapPosition = cellPos c then (d.keepJoker b).onBlock b Block.leaveBall else d
  (d.onCell c Cell.foldSafe).endRoutines (regionCtx (cellRegion c)) (.cell c)

/-- A Fold of a block: every cell, the Joker, the DDS (R398); every calibration of it is abandoned (R197), and the Joker's DACs are
cleared (R224). -/
def Device.foldBlock (d : Device) (b : BlockIx) : Device :=
  let d := (d.abandonCal b).abandonBlock b
  let d := d.onCells (inBlock b) Cell.foldSafe
  let d := d.onBlock b fun x => { x.freeJoker.stopDds.leaveBall with jokerDacs := x.jokerClear.dacs }
  d.endRoutines (regionCtx (blockRegion b)) (.block b)

/-- A staleness check that runs is abandoned (R443; log entry 71). -/
def Device.abandonCheck (d : Device) (r : RegionIx) : Device :=
  if d.regions[r].stale.state = .running then
    d.onRegion r fun x => { x with stale := { x.stale with state := .abandoned, endTime := d.now }
                                   comb := if x.comb = .scrubbing then .valid else x.comb }
  else d

/-- The pins of a region in their Fold state. -/
def Device.foldPins (d : Device) (r : RegionIx) : Device :=
  let d := (blocksOf r).foldl Device.foldBlock (d.abandonFull r)
  d.onCells (inRegion r) fun x => { x with edges := [], frc := {} }

/-- The pins and the routines of a region take their Fold state again: the region is in Fold, or Off with its die in Retention, and
no Fold was in force before this one (R308, R309, R398, R400). -/
def Device.foldAgain (d : Device) (r : RegionIx) : Device := (d.foldPins r).endRoutines (regionCtx r) (.region r)

/-- A Fold of a region with the EndReason it gives a run (R97, R398). A region in Fold stays so, and so does one that is Off, which
comes back from Standby in Fold (R374). Where a fault Folds a region that S3 has marked, S3 does not bring it back (R387, R388). -/
def Device.foldRegion (d : Device) (reason : Nat) (r : RegionIx) : Device :=
  match d.regions[r].mode with
  | .off =>
    if d.dieOff r then d.endRoutines (regionCtx r) (.region r)
    else (d.foldAgain r).onRegion r fun x => { x with recorded := if x.recorded = .off then .off else .fold }
  | .fold => d.foldAgain r
  | _ =>
    let running := d.regions[r].run.inProgress
    let d := if running then (d.endRun r reason true).endPartner r else d
    let d := (d.foldPins r).abandonCheck r
    let d := (d.dramSleep r).endRoutines (regionCtx r) (.region r)
    let d := d.onRegion r fun x =>
      { x with mode := .fold, stale := { x.stale with away := d.now }
               heldByShed := x.heldByShed || x.byShed, byShed := x.byShed && decide (reason = 7), shedCycle := d.fclk }
    d.sourceEvent (0x05 + r.val) (regionDomain r)

/-- A Fold of the chip: both regions, and all four contexts (R309, R398). -/
def Device.foldChip (d : Device) : Device :=
  let both := d.regions[0].run.inProgress && d.regions[1].run.inProgress
  let d := if both then (d.endRun 0 5 true).endRun 1 5 true else d
  let d := (d.foldRegion 5 0).foldRegion 5 1
  (d.endRoutines 0 .chip).endRoutines 3 .chip

/-- A Fold of a scope. -/
def Device.fold (d : Device) : ColId → Device
  | .chip => d.foldChip
  | .region r => d.foldRegion 5 r
  | .block b => d.foldBlock b
  | .cell c => d.foldCell c

/-! ### The Folds of shed stage S3 (R386, R388) -/

/-- S3 Folds a region that it has marked, with the entry ShedFold (R386, R410; log entry 63). -/
def Device.shedFold (d : Device) (r : RegionIx) : Device :=
  let x := d.regions[r]
  if x.byShed ∧ x.mode ≠ .fold ∧ x.mode ≠ .off then (d.addLog 3 (noteCode r.val 2) 0).foldRegion 7 r else d

/-- Once S3 has ended every run, the regions it marked Fold (R386). -/
def Device.shedFolds (d : Device) : Device :=
  if regionsAll.any fun r => decide (d.regions[r].run.ending = some 7) then d else (d.shedFold 0).shedFold 1

/-- A fault Folds a region in the FCLK cycle in which S3 did: the Fold counts as the fault's (R388). -/
def Device.overShed (d : Device) (scope : ColId) (r : RegionIx) : Device :=
  let x := d.regions[r]
  if scopeInside (.region r) scope ∧ x.byShed ∧ x.mode = .fold ∧ x.shedCycle = d.fclk then
    d.onRegion r fun x => { x with byShed := false, runShed := false
                                   run := if x.runShed then { x.run with endReason := 5 } else x.run }
  else d

/-- A Fold that a fault gives: of its scope where no Fold was in force there, and in the place of one that S3 gave in the same FCLK
cycle (R388, R398); where it ends the last run that S3 waited for, S3 Folds its regions. -/
def Device.faultFold (d : Device) (scope : ColId) (covered : Bool) : Device :=
  let d := if covered then d else d.fold scope
  ((d.overShed scope 0).overShed scope 1).shedFolds

/-! ### Events, classification and reactions (R395, R396) -/

/-- The cycle number of a region while a run is in progress there (R331, R410). -/
def Device.runCycle (d : Device) (r : Option RegionIx) : Nat :=
  match r with
  | some r => if d.regions[r].run.inProgress then d.regions[r].run.cycle else 0
  | none => 0

/-- The Data of a fault entry: events in the window and the cycle number (R410). -/
def Device.faultData (d : Device) (col : ColId) (s : Source) : Nat :=
  let kept := (s.times.filter fun t => d.now ≤ t + s.windowMs * 1000000).length
  min 255 kept * 2 ^ 36 + d.runCycle (colRegion col) % 2 ^ 36

/-- The source becomes severe with the event at the head of its times (R395). -/
def Source.classifies (s : Source) : Bool :=
  match s.times, s.times[s.threshold - 1]? with
  | now :: _, some t => decide (now ≤ t + s.windowMs * 1000000)
  | _, _ => false

/-- An event of a source now is one event with its last one: they share an FCLK cycle or, while FCLK is stopped, a Keeper time (R392). -/
def Device.sameEvent (d : Device) (s : Source) : Bool :=
  if d.modes.clocks then decide (s.cycle = some d.fclk) else decide (s.times.head? = some d.now)

/-- A source with one more event, now (R395, R396). -/
def Device.oneMore (d : Device) (s : Source) : Source :=
  { s with sticky := true, count := satAdd (maxU 32) s.count 1, times := d.now :: s.times
           cycle := if d.modes.clocks then some d.fclk else none }

/-- A die that has power is above 125 °C (R384). -/
def Device.dieAbove (d : Device) : Bool :=
  decide (2000 < d.report.tempCore) || (!d.dieOff 0 && decide (2000 < d.report.tempA)) || (!d.dieOff 1 && decide (2000 < d.report.tempB))

/-- The scopes a parity source holds (R402). -/
def Device.parityScopes (d : Device) (col : ColId) : List ColId :=
  match col with
  | .chip => d.chip.failedBelow.filterMap fun i => if h : i < 2 then some (.region ⟨i, h⟩) else none
  | .region r => d.regions[r].failedBelow.filterMap fun i => if h : i < 8 then some (.block ⟨i, h⟩) else none
  | .block b => d.blocks[b].failedBelow.filterMap fun i => if h : i < 128 then some (.cell ⟨i, h⟩) else none
  | .cell _ => []

/-- The scopes that the reaction of a source Folds. -/
def Device.foldScopes (d : Device) (col : ColId) (n : Nat) (reaction : Nat) : List ColId :=
  if isParity col n then d.parityScopes col else (reactionScope col reaction).toList

/-- A collector exists: its die has power (R359, R403). -/
def Device.collectorOn (d : Device) (col : ColId) : Bool :=
  d.modes.coreDie && (match col with
    | .cell c => !d.dieOff (cellRegion c)
    | .block b => !d.dieOff (blockRegion b)
    | _ => true)

/-- An event of a source (R392, R395, R396): sticky and counted; Raised, Severe and Fold entries in this order, then the
Notify; a Fold acts where its scope is not Folded already. All raises within one FCLK cycle are one event. -/
def Device.raise (d : Device) (col : ColId) (n : Nat) : Device :=
  match (d.sources col)[n]? with
  | none => d
  | some s =>
    if !d.collectorOn col || d.sameEvent s then d
    else
      let s' := d.oneMore s
      let code := sourceCode col n
      let d1 := d.onSource col n fun _ => s'
      let data := d1.faultData col s'
      let d1 := if s.sticky then d1 else d1.addLog 1 code data
      if s.severe || !s'.classifies then d1
      else
        let scopes := d1.foldScopes col n s.reaction
        let fresh := scopes.map fun x => (x, d1.covered x)
        let d2 := (d1.onSource col n fun s => { s with severe := true }).addLog 2 code data
        let d2 := if scopes = [] then d2 else d2.addLog 3 code data
        let d2 := if s.reaction = 0 then d2 else d2.notify 1 2 code data (d2.runCycle (colRegion col))
        (fresh.foldl (fun d x => d.faultFold x.1 x.2) d2).refreshMode

/-- The cause of a condition source is present from now on, or is gone, unless an injection holds it (R409): an onset is an event
(R392). -/
def Device.setCause (d : Device) (col : ColId) (n : Nat) (present : Bool) : Device :=
  match (d.sources col)[n]? with
  | none => d
  | some s =>
    if !d.collectorOn col then d
    else
      let d := d.onSource col n fun s => { s with cause := present || d.chip.injActive.contains (col, n) }
      if present && !s.cause then d.raise col n else d

/-- Where a rule asks for a log entry with each event: an event of a source that is Sticky already writes its entry too
(R223, R236). -/
def Device.entryFor (d : Device) (col : ColId) (n : Nat) : Device :=
  match (d.sources col)[n]? with
  | some s => if s.sticky && d.collectorOn col then d.addLog 1 (sourceCode col n) (d.faultData col s) else d
  | none => d

end Sys2Proof.Machine
end

