-- ==== Sys2Proof/Machine/Operands.lean ====
section
/-!
DEFINITION. How a host frame reaches the part and how a request is checked and answered (R319 to R326, R337, R351, R352,
R357 to R361, R423), and how transfers, sessions and the deal end (R323, R328, R334, R336).
-/
namespace Sys2Proof.Machine

/-! ### Ports, sessions, credits -/

/-- The part answers Thenko requests: it is out of reset with clocks running (R332, R370). -/
def Device.answering (d : Device) : Bool := d.modes.porst && d.modes.coreDie && d.modes.clocks
/-- A frame is discarded and counted (R319, R324, R332, R423; log entry 9). -/
def Device.discard (d : Device) (p : PortIx) : Device := d.onPort p fun x => { x with discarded := x.discarded + 1 }
/-- A port has a link. -/
def Device.linkUp (d : Device) (p : PortIx) : Bool := decide (d.link.ports[p].link ≠ 0)
/-- A frame's NodeAddress is accepted (R324). -/
def Device.nodeOk (d : Device) (node : Nat) : Bool := !d.link.assigned || decide (node = d.link.nodeAddress)
/-- The next Sequence expected on a port (R325; log entry 58). -/
def Session.expected (x : Session) (p : PortIx) : Nat := if p = 0 then x.next0 else x.next1
/-- The frame expected has come (R325; log entry 58). -/
def Session.advance (x : Session) (p : PortIx) : Session :=
  if p = 0 then { x with next0 := (x.next0 + 1) % 2 ^ 32 } else { x with next1 := (x.next1 + 1) % 2 ^ 32 }

/-- A frame passes the checks of its MAC address, FCS and length (R319). -/
def arrives (h : Hdr) (mayBroadcast : Bool) : Bool :=
  h.fcsOk && h.whole && match h.dst with
    | .own | .ptp => true
    | .broadcast => mayBroadcast
    | .other => false

/-- Where the answer to a frame of a Type goes (R320, R325). -/
def retOf (h : Hdr) (type : Nat) : Ret :=
  { port := h.port, seq := h.seq, secure := h.secure, type, node := h.node, tag := h.tag }
/-- Where the answers to the request of a transfer go. -/
def Transfer.ret (t : Transfer) : Ret :=
  { port := t.port, seq := t.seq, secure := t.secure, type := if t.write then 6 else 5, node := t.node, tag := t.tag }
/-- Where the answer to a Claim goes. -/
def Claim.ret (c : Claim) : Ret := { port := c.port, seq := c.seq, secure := c.secure, type := 9, node := c.node, tag := c.tag }

/-- A Sequence comes before another, in a count modulo 2^32 (R325). -/
def seqBefore (a b : Nat) : Bool :=
  let n := (b + 2 ^ 32 - a) % 2 ^ 32
  decide (0 < n) && decide (n < 2 ^ 31)

/-- An earlier request of the session on the same port has not been answered yet (R325). -/
def Session.waits (x : Session) (t : Ret) : Bool := x.owed.any fun (p, s) => decide (p = t.port) && seqBefore s t.seq

/-- An answer takes its place in the order of Sequence (R325). -/
def putHeld (q : Ret × Reply) : List (Ret × Reply) → List (Ret × Reply)
  | [] => [q]
  | o :: rest => if decide (o.1.port = q.1.port) && seqBefore q.1.seq o.1.seq then q :: o :: rest else o :: putHeld q rest

/-- Answers are sent, and kept among the last 64 of the session; the others wait (R325). -/
def Link.sendHeld (l : Link) (i : Fin 16) (go : Ret × Reply → Bool) (via : PortIx → PortIx) : Link :=
  let x := l.sessions[i]
  let out := x.held.filter go
  { l with
    sessions := l.sessions.set i { x with held := x.held.filter fun q => !go q
                                          record := ((out.map fun q => (q.1.port, q.1.seq, q.2)).reverse ++ x.record).take 64 }
    sent := l.sent ++ out.map fun q => l.frame i { q.1 with port := via q.1.port } q.2 }

/-- The answers whose turn it is, on ports with a link, are sent (R325, R330). -/
def Link.release (l : Link) (i : Fin 16) : Link :=
  l.sendHeld i (fun q => decide (l.ports[q.1.port].link ≠ 0) && !l.sessions[i].waits q.1) id

/-- A response: sent in the order of Sequence (R325), on its port if that has a link (R330); it carries Secure as its request did
(R423; log entry 7). -/
def Link.respond (l : Link) (i : Fin 16) (t : Ret) (r : Reply) : Link :=
  let x := l.sessions[i]
  let x := { x with owed := x.owed.filter fun q => decide (q ≠ (t.port, t.seq)), held := putHeld (t, r) x.held }
  ({ l with sessions := l.sessions.set i x }).release i

/-- A request is answered (R322, R325). -/
def Device.respond (d : Device) (i : Fin 16) (t : Ret) (r : Reply) : Device := { d with link := d.link.respond i t r }

/-- A request will be answered later (R325). -/
def Device.owe (d : Device) (i : Fin 16) (h : Hdr) : Device :=
  d.onSession i fun x => { x with owed := x.owed ++ [(h.port, h.seq)] }

/-- A request is not answered any more; what waited for its answer is sent. -/
def Link.forgive (l : Link) (i : Fin 16) (p : PortIx) (seq : Nat) : Link :=
  let x := l.sessions[i]
  ({ l with sessions := l.sessions.set i { x with owed := x.owed.filter fun q => decide (q ≠ (p, seq)) } }).release i

/-- Every answer that waits is sent: the session is about to end. -/
def Link.flush (l : Link) (i : Fin 16) : Link :=
  ({ l with sessions := l.sessions.set i { l.sessions[i] with owed := [] } }).release i

/-- A frame of a session has come on a port: answers still owed on a port without a link are sent there (R330). -/
def Link.reroute (l : Link) (i : Fin 16) (p : PortIx) : Link :=
  l.sendHeld i (fun q => decide (l.ports[q.1.port].link = 0) && !l.sessions[i].waits q.1) fun _ => p

/-- Credits that a frame grants: to the open ReadBlock of its session, or counted as granted and returned (R329). -/
def Device.grantCredits (d : Device) (i : Fin 16) (h : Hdr) : Device :=
  if h.credits = 0 then d
  else match d.link.sessions[i].transfer with
    | some t =>
      if t.write then
        d.onPort h.port fun x => { x with hostGranted := x.hostGranted + h.credits, hostReturned := x.hostReturned + h.credits }
      else
        (d.onPort t.port fun x => { x with hostGranted := x.hostGranted + h.credits }).onSession i fun x =>
          { x with transfer := some { t with credits := t.credits + h.credits } }
    | none =>
      d.onPort h.port fun x => { x with hostGranted := x.hostGranted + h.credits, hostReturned := x.hostReturned + h.credits }

/-- A frame of an attached session passes the checks on its address and its trailer (R319, R324, R423); a frame of a session
that is not attached is discarded (log entry 9). -/
def Device.frameOk (d : Device) (h : Hdr) : Option (Fin 16) :=
  if !d.answering || !arrives h false || !d.nodeOk h.node then none
  else match sessIx h.session with
    | none => none
    | some i =>
      let x := d.link.sessions[i]
      if !x.attached || (h.secure && (!x.secure || !h.trailerOk)) then none else some i

/-- A frame that fails its checks is discarded; a wrong trailer of a secure session counts as such too (R423). -/
def Device.rejectFrame (d : Device) (h : Hdr) : Device :=
  let bad := match sessIx h.session with
    | some i => d.answering && arrives h false && d.nodeOk h.node && d.link.sessions[i].attached && h.secure && d.link.sessions[i].secure
    | none => false
  let d := if bad then { d with sec := { d.sec with trailerFailures := d.sec.trailerFailures + 1 } } else d
  d.discard h.port

/-- A frame of the session has arrived (R323, R330). -/
def Device.frameSeen (d : Device) (i : Fin 16) (p : PortIx) : Device :=
  let e := d.onSession i fun x => { x with lastFrame := d.now, lastPort := p }
  { e with link := e.link.reroute i p }

/-- A duplicate is counted, and answered again from the record where it has an answer there (R325). -/
def Device.answerAgain (d : Device) (i : Fin 16) (h : Hdr) (type : Nat) : Device :=
  let d := d.onPort h.port fun x => { x with duplicates := x.duplicates + 1 }
  match d.link.sessions[i].record.find? fun q => decide (q.1 = h.port) && decide (q.2.1 = h.seq) with
  | some (_, _, r) => d.emit (d.link.frame i (retOf h type) r)
  | none => d

/-- A request or a host BlockData frame of a Type arrives (R319, R324, R325, R423): the one expected is acted on, a duplicate is
answered again, any other is discarded (log entry 9). -/
def Device.receive (d : Device) (h : Hdr) (type : Nat) (act : Fin 16 → Device → Device × Option Reply) : Device :=
  if !d.linkUp h.port then d
  else match d.frameOk h with
    | none => d.rejectFrame h
    | some i =>
      let e := d.link.sessions[i].expected h.port
      let d := d.frameSeen i h.port
      let back := (e + 2 ^ 32 - h.seq) % 2 ^ 32
      if h.seq = e then
        match act i ((d.onSession i fun x => x.advance h.port).grantCredits i h) with
        | (d, some r) => d.respond i (retOf h type) r
        | (d, none) => d
      else if 1 ≤ back ∧ back ≤ 64 then d.answerAgain i h type
      else d.onPort h.port fun x => { x with outOfOrder := x.outOfOrder + 1 }

/-! ### Transfers, sessions and the deal -/

/-- A transfer ends: every credit still open in it is returned (R328; log entry 59). -/
def Device.endTransfer (d : Device) (i : Fin 16) : Device :=
  match d.link.sessions[i].transfer with
  | none => d
  | some t =>
    let d := d.onPort t.port fun x =>
      if t.write then { x with partReturned := x.partReturned + t.credits } else { x with hostReturned := x.hostReturned + t.credits }
    let d := d.onSession i fun x => { x with transfer := none }
    { d with link := d.link.forgive i t.port t.seq }

/-- The Dealer record changes: it reaches every region that is not Off in the same cycle, and is logged and notified
(R331, R336). -/
def Device.setDealer (d : Device) (rec : DealerRec) (cause : VacateCause) : Device :=
  let d := { d with link := { d.link with dealer := rec, lastChange := d.now, vacateCause := cause }
                    regions := vmap (fun _ (x : Region) => if x.mode = RMode.off then x else { x with dealer := rec }) d.regions }
  d.note 5 0 3 rec.epoch (rec.session + cause.ctorIdx * 2 ^ 16)

/-- The next DealerEpoch (R336). -/
def Device.nextEpoch (d : Device) : Nat := (d.link.dealer.epoch + 1) % 2 ^ 32

/-- The deal is vacated (R334, R336), and the move to Ready of R380 is owed. -/
def Device.vacate (d : Device) (cause : VacateCause) : Device :=
  let d := d.setDealer { session := 0, hostId := 0, priority := 0, cls := 0, epoch := d.nextEpoch } cause
  { d with link := { d.link with readyOwed := true } }

/-- A session ends: its transfers, its place in Notifies and in the election; the Dealer's end vacates the deal (R323). -/
def Device.endSession (d : Device) (i : Fin 16) : Device :=
  let d := (d.endTransfer i).onSession i fun _ => {}
  let d := { d with link := { d.link with
      notifies := (d.link.notifies.map fun n => { n with waiting := n.waiting.filter fun w => w.1 ≠ sessNo i }).filter
        fun n => n.waiting ≠ []
      window := d.link.window.map fun l => l.filter fun c => c.session ≠ sessNo i } }
  if d.link.dealer.session = sessNo i then d.vacate .sessionEnd else d

/-- Every session ends (R374, R435, R436). -/
def Device.endSessions (d : Device) : Device := d.attached.foldl Device.endSession d

/-! ### Checks (R360, R361) -/

/-- A condition, and the Code and Reason it is refused with. -/
abbrev Check := Bool × Nat × Nat

/-- The refusal of two that comes first: by Code, then by Reason (R360, R361; log entry 10). -/
def Refuse.first (a b : Refuse) : Refuse := if a.code < b.code ∨ (a.code = b.code ∧ a.reason ≤ b.reason) then a else b

/-- The first refusal of those that apply (R360, R361; log entry 10). -/
def firstRefusal : List Check → Option Refuse
  | [] => none
  | (b, c, r) :: rest =>
    match firstRefusal rest with
    | none => if b then some { code := c, reason := r } else none
    | some x => if b then some (Refuse.first { code := c, reason := r } x) else some x

/-- The session is the Dealer (R333). -/
def Device.isDealer (d : Device) (i : Fin 16) : Bool := decide (d.link.dealer.session = sessNo i)
/-- A request of a secure session that carries Secure (R423). -/
def Device.isSecure (d : Device) (i : Fin 16) (h : Hdr) : Bool := d.link.sessions[i].secure && h.secure

/-- What a write needs of its session: in lifecycle Blank every request but Attach, Read and Detach is refused with the one
reason that R416 names; else only the Dealer writes (R333, R352; log entry 68). -/
def Device.dealerChecks (d : Device) (i : Fin 16) : List Check :=
  [(decide (d.sec.life = .blank), 4, 6), (decide (d.sec.life ≠ .blank) && !d.isDealer i, 4, 1)]

/-- How a region's copy of the Dealer record stands to the chip record (R337). -/
inductive Copy where
  | same | lower | conflict
  deriving DecidableEq, Repr

/-- The check of R337 (log entry 59). -/
def Device.copyState (d : Device) (r : RegionIx) : Copy :=
  let c := d.regions[r].dealer
  let k := d.link.dealer
  if c.epoch < k.epoch then .lower
  else if c.epoch = k.epoch ∧ c.session = k.session ∧ c.hostId = k.hostId then .same
  else .conflict

/-- An epoch conflict: both regions Fold and the deal is vacated (R337; log entry 59). -/
def Device.epochConflict (d : Device) : Device :=
  (((d.foldRegion 5 0).foldRegion 5 1).vacate .epochConflict).refreshMode

/-- Where a write goes: index, subindex, the region whose copy of the Dealer record is checked, and whether the object lies
on a pin die (R337, R359, R367). -/
structure Target where
  idx : Nat
  sub : Nat
  region : Option RegionIx
  pinDie : Bool
  deriving DecidableEq, Repr

/-- What a register makes of a write: its size, its own rules of access, of state and of value, and its effect (log entry
10). -/
structure WSpec where
  len : Nat
  access : List Check := []
  state : List Check := []
  value : List Check := []
  apply : Device → Device

/-- The pin die of the object has no power (R359; log entry 67). -/
def Device.dieCheck (d : Device) (t : Target) : Check :=
  (t.pinDie && (match t.region with | some r => d.dieOff r | none => false), 5, 5)

/-- The checks of state and value, a wrong Length standing for every check of value (R357, R360; log entry 10). -/
def Device.writeChecks (d : Device) (t : Target) (w : Data) (s : WSpec) : List Check :=
  d.dieCheck t :: s.state ++ (if w.len = s.len then s.value else [(true, 7, 3)])

/-- A write is checked whole and applied whole, or refused whole (R337, R358, R360; log entry 10). -/
def Device.tryWrite (d : Device) (t : Target) (w : Data) (access : List Check) (s : WSpec) : Device × Option Reply :=
  let refuse := fun (d : Device) (r : Refuse) => (d, some (Reply.error r t.idx t.sub))
  match firstRefusal (access ++ s.access) with
  | some r => refuse d r
  | none =>
    match t.region.elim Copy.same d.copyState with
    | .lower => refuse (d.raise (.region (t.region.getD 0)) 13) { code := 4, reason := 5 }
    | .conflict => refuse d.epochConflict { code := 4, reason := 5 }
    | .same =>
      match firstRefusal (d.writeChecks t w s) with
      | some r => refuse d r
      | none => (s.apply d, some (.ok []))

/-- A Write message to a register (R322, R358; log entry 10). -/
def Device.writeReg (d : Device) (h : Hdr) (t : Target) (w : Data) (spec : Fin 16 → Device → WSpec) : Device :=
  d.receive h 4 fun i d => d.tryWrite t w (d.dealerChecks i) (spec i d)

/-- A write of one code to a one-byte Command subindex (log entry 10). -/
def Device.writeCmd (d : Device) (h : Hdr) (t : Target) (code : Nat) (spec : Fin 16 → Device → WSpec) : Device :=
  d.writeReg h t { len := 1, val := code } spec

/-- A request with Index 0 in its error responses is refused, or acted on (R361). -/
def Device.tryRequest (d : Device) (checks : List Check) (act : Device → Device × Option Reply) : Device × Option Reply :=
  match firstRefusal checks with
  | some r => (d, some (.error r 0 0))
  | none => act d

/-! ### Values (R351) -/

/-- A check that a value lies in a range. -/
def inRange (v lo hi : Int) : Check := (decide (v < lo ∨ hi < v), 7, 1)
/-- A check that an unsigned value lies in a range. -/
def inRangeN (v lo hi : Nat) : Check := (decide (v < lo ∨ hi < v), 7, 1)
/-- A BOOL is 0 or 1. -/
def boolCheck (v : Nat) : Check := (decide (1 < v), 7, 1)
/-- A code of an ENUM8 is one of the first `n`. -/
def codeCheck (v n : Nat) : Check := (decide (n ≤ v), 7, 2)
/-- The subindex is defined for the index (R360), and is not subindex 0 of a record (R352). -/
def subCheck (subs : List Nat) (sub : Nat) : Check :=
  (!subs.contains sub, if sub = 0 then 3 else 2, if sub = 0 then 1 else 0)
/-- The region is in Run or Calibrate, which refuses the write. -/
def Device.busyCheck (d : Device) (r : RegionIx) : Check := (d.regions[r].busyMode, 5, 1)

/-- The base of a region's template (R7). -/
def regionBase (r : RegionIx) : Nat := 0x3000 + 0x800 * r.val
/-- The base of a cell's objects (R7). -/
def cellBase (c : CellIx) : Nat := 0x4000 + 0x10 * c.val
/-- A subindex of a region's object on the core die. -/
def regionTarget (r : RegionIx) (off sub : Nat) : Target := { idx := regionBase r + off, sub, region := some r, pinDie := false }
/-- A subindex of a region's object on the pin die. -/
def dieTarget (r : RegionIx) (off sub : Nat) : Target := { idx := regionBase r + off, sub, region := some r, pinDie := true }
/-- A subindex of a cell's object. -/
def cellTarget (c : CellIx) (off sub : Nat) : Target :=
  { idx := cellBase c + off, sub, region := some (cellRegion c), pinDie := true }
/-- A subindex of an object of a block's Joker (R369). -/
def jokerTarget (b : BlockIx) (off sub : Nat) : Target :=
  { idx := 0x4800 + 0x10 * b.val + off, sub, region := some (blockRegion b), pinDie := true }
/-- A subindex of a chip-level object. -/
def chipTarget (idx sub : Nat) : Target := { idx, sub, region := none, pinDie := false }

end Sys2Proof.Machine
end

