-- ==== Sys2Proof/Machine/Timing.lean ====
section
/-!
DEFINITION. Timing sets: the events a cell entry places, the rules on them, pairs of sets, and swing against rate
(R2, R46 to R60).
-/
namespace Sys2Proof.Machine

/-! ### FormatWord (R49) -/

/-- Format: 0 NRZ, 1 RZ, 2 RO, 3 SBC, 4 DNRZ, 5 QNRZ, 6 FRC, 7 Unused. -/
def CellEntry.fmt (e : CellEntry) : Nat := field e.format.toNat 0 4
/-- CompareMode: 0 edge strobe, 1 window strobe, 2 window with inline timing. -/
def CellEntry.cmode (e : CellEntry) : Nat := field e.format.toNat 4 2
/-- S1Enable. -/
def CellEntry.s1Enable (e : CellEntry) : Bool := e.format.getLsbD 6
/-- QDir: 0 Drive, 1 Compare, 2 Mask, 3 Off. -/
def CellEntry.qdir (e : CellEntry) : Nat := field e.format.toNat 8 2
/-- A single-bit format. -/
def CellEntry.singleBit (e : CellEntry) : Bool := decide (e.fmt ≤ 3)
/-- QNRZ in Compare or Mask, which takes strobes at half the period. -/
def CellEntry.halves (e : CellEntry) : Bool := decide (e.fmt = 5) && (decide (e.qdir = 1) || decide (e.qdir = 2))

/-! ### Events of an entry (R52, R53) -/

/-- The drive edges a format uses, in the order they must rise (R52, R54). -/
def CellEntry.driveEdges (e : CellEntry) : List Nat :=
  match e.fmt with
  | 0 | 1 | 2 | 4 => [e.d0, e.d1]
  | 3 => [e.d0, e.d1, e.d2]
  | 5 => [e.d0, e.d1, e.d2, e.d3]
  | _ => []

/-- The closing of a strobe event that opens at `s` (R53). -/
def CellEntry.closing (e : CellEntry) (s w : Nat) : Nat := if e.cmode = 0 then s else w

/-- The strobe positions a format uses: opening and closing, in the order of R55, with ordinals 0 to 3 (R52, R118). -/
def CellEntry.strobePos (e : CellEntry) (p : Nat) : List (Nat × Nat) :=
  let a := (e.s0, e.closing e.s0 e.w0)
  let b := (e.s1, e.closing e.s1 e.w1)
  let half := fun (x : Nat × Nat) => (x.1 + p / 2, x.2 + p / 2)
  if e.singleBit then (if e.s1Enable then [a, b] else [a])
  else if e.fmt = 4 then [a, b]
  else if e.halves then [a, b, half a, half b]
  else []

/-- Every time an entry places, for the spill rules (R56). -/
def CellEntry.times (e : CellEntry) (p : Nat) : List Nat :=
  e.driveEdges ++ (e.strobePos p).flatMap fun x => [x.1, x.2]

/-! ### The rules on one entry (R2, R50, R54 to R57) -/

/-- Differences of neighbours. -/
def gaps : List Nat → List Int
  | a :: b :: rest => ((b : Int) - a) :: gaps (b :: rest)
  | _ => []

/-- The intervals between used drive edges, the wrap interval included (R54). -/
def CellEntry.driveGaps (e : CellEntry) (p : Nat) : List Int :=
  match e.driveEdges with
  | [] => []
  | first :: rest => gaps (first :: rest) ++ [(first : Int) + p - ((first :: rest).getLast (by simp))]

/-- Gaps from each closing to the next opening. -/
def strobeGaps : List (Nat × Nat) → List Int
  | a :: b :: rest => ((b.1 : Int) - a.2) :: strobeGaps (b :: rest)
  | _ => []

/-- The gaps between strobe events, the wrap into the next vector included (R55). -/
def CellEntry.closeGaps (e : CellEntry) (p : Nat) : List Int :=
  match e.strobePos p with
  | [] => []
  | first :: rest => strobeGaps (first :: rest) ++ [(first.1 : Int) + p - ((first :: rest).getLast (by simp)).2]

/-- Data bits per vector (R2). -/
def CellEntry.bits (e : CellEntry) : Nat := match e.fmt with | 0 | 1 | 2 | 3 => 1 | 4 => 2 | 5 => 4 | _ => 0

/-- The grade limit of R2: 3.2 Gb/s is one bit in 1 024 fu. A clock whose D2 − D1 is 0 or less has no positive interval and no rate by
R2: the model counts it as above the limit, so that on the slow grade it is reported as 0x0B before its own rule's 0x0C (log entry
73). -/
def CellEntry.tooFast (e : CellEntry) (p : Nat) : Bool :=
  if e.fmt = 6 then decide (e.d1 < 1024) || decide ((e.d2 : Int) - e.d1 < 1024) else decide (p < e.bits * 1024)

/-- The lowest code of R50 that an entry breaks, 0 if none. For 0x05 one set is tested against P + 65 535 alone; that no time lies past
the end of the vector after it, whose set validation cannot know, is left to the pairs of sets at admission (R56, R58; log entry
73). -/
def CellEntry.error (e : CellEntry) (p : Nat) (slow : Bool) : Nat :=
  let window := decide (e.cmode ≠ 0)
  if e.halves ∧ p % 2 = 1 then 0x03
  else if 8 ≤ e.fmt ∨ e.cmode = 3 then 0x04
  else if (e.times p).any (fun t => decide (p + 65535 < t)) then 0x05
  else if (gaps e.driveEdges).any (fun g => decide (g ≤ 0)) then 0x06
  else if (e.driveGaps p).any (fun g => decide (g < 459)) then 0x07
  else if (gaps ((e.strobePos p).map (·.1))).any (fun g => decide (g ≤ 0)) then 0x08
  else if window && (e.strobePos p).any (fun x => decide ((x.2 : Int) - x.1 < 32)) then 0x09
  else if (e.closeGaps p).any (fun g => decide (g < 64)) then 0x0A
  else if slow && e.tooFast p then 0x0B
  else if e.fmt = 6 ∧ ¬(e.d0 < e.d2 ∧ 459 ≤ e.d1 ∧ e.d1 + 459 ≤ e.d2 ∧ 1024 ≤ e.d2) then 0x0C
  else 0

/-- The first entry in ascending position that breaks a rule: its position and code. -/
def firstBad (p : Nat) (slow : Bool) : Nat → List CellEntry → Option (Nat × Nat)
  | _, [] => none
  | i, e :: rest => if e.error p slow = 0 then firstBad p slow (i + 1) rest else some (i, e.error p slow)

/-- Validation of a set (R50, R51): 1 Valid, 2 Invalid. -/
def TimingSet.validate (t : TimingSet) (slow : Bool) : SetStatus :=
  if t.period < 2048 then { state := 2, error := 0x01, firstCell := 0xFF }
  else if 3276800000 < t.period then { state := 2, error := 0x02, firstCell := 0xFF }
  else match firstBad t.period slow 0 t.cells.toList with
    | some (i, code) => { state := 2, error := code, firstCell := i }
    | none => { state := 1, error := 0, firstCell := 0xFF }

/-- A set after a write to it (R51). -/
def TimingSet.revalidate (t : TimingSet) (slow : Bool) : TimingSet := { t with status := t.validate slow }

/-- A cell entry from its 40 bytes (R48); what is written to reserved bits is ignored (R13). -/
def CellEntry.ofNat (v : Nat) : CellEntry :=
  let f := fun i => field v (32 * i) 32
  { format := BitVec.ofNat 32 (f 0) &&& 0x37F, d0 := f 1, d1 := f 2, d2 := f 3, d3 := f 4, s0 := f 5, s1 := f 6, w0 := f 7, w1 := f 8 }

/-- The 40 bytes of a cell entry (R48). -/
def CellEntry.toNat (e : CellEntry) : Nat :=
  [e.format.toNat, e.d0, e.d1, e.d2, e.d3, e.s0, e.s1, e.w0, e.w1].foldr (fun x acc => x + 2 ^ 32 * acc) 0

/-- SetStatus as a word (R50). -/
def SetStatus.word (s : SetStatus) : Nat := s.state + s.error * 2 ^ 8 + s.firstCell * 2 ^ 16

/-! ### Pairs of sets (R58) -/

/-- The largest number below `p` that leaves the remainder `r` modulo `g`. -/
def lastResidue (p g r : Nat) : Option Nat := if g = 0 ∨ p = 0 ∨ p - 1 < r % g then none else some (p - 1 - (p - 1 - r % g) % g)

/-- The clock of two entries is one unbroken clock (R44). -/
def CellEntry.sameClock (a b : CellEntry) : Bool :=
  decide (a.fmt = 6) && decide (b.fmt = 6) && decide (a.d0 = b.d0) && decide (a.d1 = b.d1) && decide (a.d2 = b.d2)

/-- The step of the reachable phases of a clock: D2 and the periods of every set the program can select in which the cell
has the same clock (R58). -/
def clockStep (a : CellEntry) (sets : List (Nat × CellEntry)) : Nat :=
  sets.foldl (fun g x => if a.sameClock x.2 then Nat.gcd g x.1 else g) a.d2

/-- frc_last_edge (R58): a reachable edge has the residue of D0, or of D0 + D1, modulo the step. -/
def frcLastEdge (a : CellEntry) (pa g : Nat) : Nat :=
  max ((lastResidue pa g a.d0).getD 0) ((lastResidue pa g (a.d0 + a.d1)).getD 0)

/-- last_a (R58): the last drive transition that `a` can make before `b`. -/
def lastDrive (a b : CellEntry) (pa g : Nat) : Option Nat :=
  if a.driveEdges ≠ [] then a.driveEdges.getLast?
  else if a.fmt = 6 ∧ !a.sameClock b then some (frcLastEdge a pa g)
  else none

/-- first_b (R58). -/
def firstDrive (b : CellEntry) (pb : Nat) : Nat :=
  match b.driveEdges with
  | e :: _ => e
  | [] => if b.fmt = 6 then b.d0 else pb

/-- The conditions of R58 hold for one cell, set `a` followed by set `b`. -/
def pairOk (a b : CellEntry) (pa pb g : Nat) : Bool :=
  (a.times pa).all (fun t => decide (t + 1 ≤ pa + pb)) &&
    (match lastDrive a b pa g with | some l => decide (l + 459 ≤ firstDrive b pb + pa) | none => true) &&
    (match (a.strobePos pa).getLast? with
      | some l =>
        let openB := match b.strobePos pb with | x :: _ => x.1 | [] => pb
        decide (l.2 + 64 ≤ openB + pa)
      | none => true)

/-! ### Swing against rate (R59) -/

/-- The swing a minimum interval allows, µV (R59). -/
def swingLimit (interval : Int) : Int :=
  if 4096 ≤ interval then 7500000 else if 2048 ≤ interval then 5000000 else if 1024 ≤ interval then 3300000 else 1600000

/-- The intervals an entry gives within one set (R59). -/
def CellEntry.intervals (e : CellEntry) (p : Nat) : List Int :=
  if e.fmt = 6 then [(e.d1 : Int), (e.d2 : Int) - e.d1] else e.driveGaps p

/-- The interval across a boundary (R59). -/
def pairInterval (a b : CellEntry) (pa pb g : Nat) : Option Int :=
  (lastDrive a b pa g).map fun l => (firstDrive b pb : Int) + pa - l

/-- The swing of a cell keeps within what its intervals allow (R59). -/
def Levels.swingOk (l : Levels) (ivs : List Int) : Bool := ivs.all fun i => decide (l.vih - l.vil ≤ swingLimit i)

/-! ### Reading sets -/

/-- A set of a region by its number. -/
def Region.set' (x : Region) (k : Nat) : TimingSet := x.sets.toList.getD k {}
/-- The entry of a place in a set. -/
def TimingSet.entry (t : TimingSet) (p : Nat) : CellEntry := t.cells.toList.getD p {}
/-- Periods and entries of one place in some sets. -/
def Region.entries (x : Region) (p : Nat) (sets : List Nat) : List (Nat × CellEntry) :=
  sets.map fun k => ((x.set' k).period, (x.set' k).entry p)

/-- Every interval the sets and pairs of an admitted run give one place of a region (R59, R60). -/
def Region.placeIntervals (x : Region) (p : Nat) (sets : List Nat) (pairs : List (Nat × Nat)) : List Int :=
  let es := x.entries p sets
  (es.flatMap fun e => e.2.intervals e.1) ++ pairs.filterMap fun (a, b) =>
    let ea := (x.set' a).entry p
    pairInterval ea ((x.set' b).entry p) (x.set' a).period (x.set' b).period (clockStep ea es)

end Sys2Proof.Machine
end

