-- ==== Sys2Proof/Machine/Stamper.lean ====
section
/-!
DEFINITION. The time stamper of a cell: conditioning, the four modes, accumulators and the TMU commands (R151 to R172).
-/
namespace Sys2Proof.Machine

/-! ### Paths and comparators that matter to the stamper (R106, R155) -/

/-- A comparator reaches the ball (R106). In a Bridge it is the one that held the pin: that of a Parametric pin is none in the Bridge
of a swap-in, and the Joker's in that of a swap-back. -/
def Path.compares (p : Path) : Bool :=
  match p.state with
  | .digital | .digitalLoad | .joker => true
  | .bridge => decide (p.step = some .bridgeOut) || decide (p.beforeSwap ≠ .parametric)
  | _ => false

/-- The comparator that judges is the Joker's: the Joker holds the pin, or held it before the Bridge of a swap-back
(R106). -/
def Path.byJoker (p : Path) : Bool :=
  decide (p.state = .joker) || (decide (p.state = .bridge) && decide (p.step = some .bridgeOut))

/-! ### Accumulators (R158, R163, R165) -/

/-- An opportunity decided without an edge; while Paused it counts in Skipped (R172). -/
def TmuResult.missed (t : TmuResult) (n : Nat) : TmuResult :=
  if t.state = .paused then { t with opportunities := t.opportunities + n, skipped := t.skipped + n }
  else { t with opportunities := t.opportunities + n, noEdge := t.noEdge + n }

/-- An opportunity decided with a sample: accumulated, Skipped or OutOfRange (R158, R163). A sample out of range after the limit is
reached counts in OutOfRange: the rules name both counters and no order (log entry 72). -/
def TmuResult.sample (t : TmuResult) (limit : Nat) (v : Int) (joker suspect : Bool) : TmuResult :=
  let t := { t with opportunities := t.opportunities + 1 }
  if t.state = .paused then { t with skipped := t.skipped + 1 }
  else if v < -2 ^ 31 ∨ 2 ^ 31 ≤ v then { t with outOfRange := t.outOfRange + 1 }
  else if limit ≤ t.count then { t with skipped := t.skipped + 1 }
  else
    let t := { t with count := t.count + 1, sum := t.sum + v, sumSquares := t.sumSquares + (v * v).toNat
                      minimum := min t.minimum v, maximum := max t.maximum v
                      jokerStamps := t.jokerStamps || joker, calSuspect := t.calSuspect || suspect }
    if t.count = limit then
      { t with limitReached := true, state := if t.state = TmuState.capturing then TmuState.complete else t.state } else t

/-- Every counter, accumulator and flag at its default (R168); a gate that is open goes on, with what it knows of its events. -/
def TmuResult.clear (t : TmuResult) : TmuResult :=
  { state := t.state, lastAccepted := t.lastAccepted, lastStop := t.lastStop, gateOpen := t.gateOpen, gatesLeft := t.gatesLeft,
    inGate := t.inGate, first := t.first, last := t.last, pendingStart := t.pendingStart
    gateJoker := t.gateJoker, gateSuspect := t.gateSuspect }

/-- A capture ends: the stamper is Idle (R171). -/
def TmuResult.idle (t : TmuResult) : TmuResult :=
  { t with state := .idle, inGate := 0, gatesLeft := 0, pendingStart := none }

/-- A gate is open (R160 to R162). -/
def TmuResult.gating (t : TmuResult) : Bool := decide (t.state = .capturing) || decide (t.state = .complete)

/-- The physical time of a stamp, 1/16 fu, from the coarse count and the tap (R152). Of an odd width the rule gives no half in whole
1/16 fu: the model takes the lower one (log entry 43). -/
def stampOf (taps : List Nat) (coarse tap : Nat) : Int :=
  (16384 * coarse + (taps.take tap).sum + taps.getD tap 0 / 2 : Nat)

/-- An event within HoldOff after an accepted one is discarded (R154; log entry 43). -/
def accepted (last : Option Int) (holdOff : Nat) (t : Int) : Bool :=
  decide (holdOff = 0) || (match last with | some l => decide (l + 128 * holdOff < t) | none => true)

/-- A polarity code selects rising (true) or falling events; Either and Auto select both (R157, R167). -/
def selects (polarity : Nat) (rising : Bool) : Bool :=
  match polarity with | 0 => rising | 1 => !rising | _ => true

/-! ### Events (R153 to R162) -/

/-- The event falls into open inline windows (R157). Its stamp is referred to the pin (R152): what moves the window from its programmed
time is taken off. -/
def Strobe.stamped (s : Strobe) (rising : Bool) (at' : Int) (joker : Bool) : Strobe :=
  if s.mode = 2 ∧ (16 * s.opens : Int) ≤ at' ∧ at' ≤ 16 * s.closes then
    let t := at' - 16 * s.shift
    if rising then { s with rise := s.rise.or (some (t, joker)) } else { s with fall := s.fall.or (some (t, joker)) }
  else s

/-- A qualifying event in the gate of an armed mode (R160 to R162). -/
def TmuResult.gateEvent (t : TmuResult) (cfg : TmuConfig) (at' : Int) (joker suspect : Bool) : TmuResult :=
  let inside := decide (t.gateOpen ≤ at') && decide (at' < t.gateOpen + 16 * cfg.gate)
  if !t.gating || !inside then t
  else match cfg.mode with
    | .armed =>
      if at' = t.gateOpen then t
      else
        let t := ({ t with inGate := t.inGate + 1 }).sample cfg.sampleLimit (at' - t.gateOpen - 16 * cfg.refOffset) joker suspect
        if t.inGate = cfg.armCount then t.idle else t
    | .frequency =>
      { t with edges := t.edges + 1, inGate := t.inGate + 1, first := if t.inGate = 0 then at' else t.first, last := at'
               gateJoker := (t.inGate ≠ 0 && t.gateJoker) || joker, gateSuspect := (t.inGate ≠ 0 && t.gateSuspect) || suspect }
    | .interval =>
      if t.pendingStart = none then { t with pendingStart := some at', gateJoker := joker, gateSuspect := suspect } else t
    | _ => t

/-- The stamper of the cell itself meets a comparator event at a time, and with the stamp that time has (R154 to R162). -/
def Cell.ownEvent (x : Cell) (rising : Bool) (at' t : Int) (joker suspect : Bool) : Cell :=
  if x.tmu.mode = .off ∨ !accepted x.tmuResult.lastAccepted x.tmu.holdOff t then x
  else
    let x := { x with tmuResult := { x.tmuResult with lastAccepted := some t } }
    let x := if x.tmu.mode = .inline then { x with strobes := x.strobes.map fun s => s.stamped rising at' joker } else x
    if selects x.tmu.polarity rising then { x with tmuResult := x.tmuResult.gateEvent x.tmu t joker suspect } else x

/-- A cell of the block that measures intervals to this one meets its event as a stop (R162; log entry 43). -/
def Cell.stopEvent (x : Cell) (pos : Nat) (rising : Bool) (t : Int) (joker suspect : Bool) : Cell :=
  if x.tmu.mode ≠ .interval ∨ x.tmu.stopPosition ≠ pos ∨ !accepted x.tmuResult.lastStop x.tmu.holdOff t then x
  else
    let r := { x.tmuResult with lastStop := some t }
    let x := { x with tmuResult := r }
    match r.pendingStart with
    | some s =>
      if r.gating && selects x.tmu.stopPolarity rising && decide (s < t ∧ t < r.gateOpen + 16 * x.tmu.gate) then
        { x with tmuResult := ({ r with pendingStart := none }).sample x.tmu.sampleLimit
                                  (t - s - 16 * x.tmu.refOffset) (joker || r.gateJoker) (suspect || r.gateSuspect) }
      else x
    | none => x

/-- The unit whose comparator judges the pin (R106). -/
def Device.judge (d : Device) (c : CellIx) : CalUnit :=
  if d.cells[c].path.byJoker then d.blocks[cellBlock c].jokerCal else d.cells[c].cal

/-- The unit that judges a pin is Suspect (R169, R192). -/
def Device.judgeSuspect (d : Device) (c : CellIx) : Bool := decide ((d.judge c).state = .suspect)

/-- How far Deskew and the compare-path offset of a unit move strobe positions and the stamp reference of a cell, fu (R152, R178, R181). -/
def Cell.strobeShift (x : Cell) (u : CalUnit) : Int := x.cal.deskew + u.compare.lag

/-- A comparator event of a cell: stops of the block's intervals first, then the cell's own stamper (R153, R162). Deskew and the
compare-path offset move the stamp reference as they move the strobe positions, so that an edge at the programmed time S stamps at S
(R152, R178). -/
def Device.stamperEvent (d : Device) (c : CellIx) (rising : Bool) (at' : Int) : Device :=
  let t := at' - 16 * d.cells[c].strobeShift (d.judge c)
  let joker := d.cells[c].path.byJoker
  let suspect := d.judgeSuspect c
  let d := d.onCells (inBlock (cellBlock c)) fun x => x.stopEvent (cellPos c) rising t joker suspect
  d.onCell c fun x => x.ownEvent rising at' t joker suspect

/-! ### Arming (R159, R171) -/

/-- The FCLK edge that follows, 1/16 fu. -/
def Device.nextFclk (d : Device) : Int := ((d.fclk + 1) * Config.fclkFu * 16 : Nat)

/-- An arm acts on an Idle stamper in a gated mode (R159; log entry 72). -/
def Cell.arm (x : Cell) (t : Int) : Cell :=
  match x.tmu.mode with
  | .armed | .frequency | .interval =>
    if x.tmuResult.state = .idle then
      { x with tmuResult := { x.tmuResult with state := .capturing, gateOpen := t, gatesLeft := x.tmu.repeats, inGate := 0,
                                               pendingStart := none } }
    else x
  | _ => x

/-- A delivery to the block's arm input (R159). -/
def Cell.waggleArm (x : Cell) (t : Int) : Cell :=
  if x.tmu.armSource ≠ 1 then x
  else if x.tmuResult.state = .capturing then { x with tmuResult := { x.tmuResult with armIgnored := true } }
  else x.arm t

/-- The start of cycle 0 arms cells with ArmSource RunStart (R159). -/
def Cell.runArm (x : Cell) (t : Int) : Cell := if x.tmu.armSource = 2 then x.arm t else x

/-- Start of a run with Mode Inline: results cleared, hold-off chain reset (R171). -/
def Cell.inlineStart (x : Cell) : Cell :=
  if x.tmu.mode = .inline ∧ x.tmuResult.state = .idle then { x with tmuResult := { state := .capturing }, windows := [] } else x

/-- Opportunities of the capture in progress that are not decided (R160 to R162, R168). In Inline mode a window that is still open is
none of them: its event has not been judged, which is what makes an opportunity (R156; log entry 72). -/
def Cell.undecided (x : Cell) : Nat :=
  match x.tmu.mode with
  | .inline => x.windows.length
  | .armed => x.tmu.armCount - x.tmuResult.inGate
  | .frequency => x.tmuResult.gatesLeft
  | .interval => if x.tmuResult.pendingStart = none then 0 else 1
  | .off => 0

/-- Shed stage S1 pauses a stamper (R171, R172; log entry 72). -/
def Cell.shedStamper (x : Cell) : Cell :=
  match x.tmuResult.state with
  | .idle => { x with tmuResult := { x.tmuResult with state := .paused, shedPaused := true } }
  | .capturing | .complete =>
    let t := { x.tmuResult with shedPaused := true }
    if x.tmu.mode = .inline then { x with tmuResult := { t with state := .paused } }
    else { x with tmuResult := { t.idle with state := .paused, opportunities := t.opportunities + x.undecided
                                             skipped := t.skipped + x.undecided } }
  | _ => x

/-- S1 is restored (R171). -/
def Cell.unshedStamper (x : Cell) (running : Bool) : Cell :=
  if x.tmuResult.state = .paused then
    { x with tmuResult := { x.tmuResult with state := if x.tmu.mode = .inline ∧ running then .capturing else .idle } }
  else x

/-! ### The decision of windows and gates (R157 to R162) -/

/-- The polarity of an opportunity (R157). -/
def Window.polarity (w : Window) (cfg : Nat) : Nat :=
  if cfg ≠ 3 then cfg
  else match w.expect with
    | some .high => 0
    | some .low => 1
    | _ => 2

/-- The first qualifying event of a window. -/
def Window.stamp (w : Window) (polarity : Nat) : Option (Int × Bool) :=
  match polarity with
  | 0 => w.rise
  | 1 => w.fall
  | _ => match w.rise, w.fall with
    | some a, some b => if a.1 ≤ b.1 then some a else some b
    | a, b => a.or b

/-- One opportunity of Inline mode is decided (R157, R158). Stamps are free of what moves the
window, as is the start of the vector; the opening of the window at the ball is not (R178). -/
def TmuResult.decide' (t : TmuResult) (cfg : TmuConfig) (w : Window) (suspect : Bool) : TmuResult :=
  let reference : Int := if cfg.eventOpen then w.opens - w.shift else w.start
  match w.stamp (w.polarity cfg.polarity) with
  | some (at', joker) => t.sample cfg.sampleLimit (at' - 16 * reference - 16 * cfg.refOffset) joker suspect
  | none => t.missed 1

/-- The mean period of a gate, rounded with ties away from zero (R161). -/
def meanPeriod (span : Int) (n : Nat) : Int :=
  if n = 0 then 0 else if 0 ≤ span then (2 * span + n) / (2 * n) else -((2 * -span + n) / (2 * n))

/-- A gate closes (R160 to R162; log entry 72). -/
def Cell.gateClose (x : Cell) : Cell :=
  let t := x.tmuResult
  if !t.gating then x
  else
    let next := fun (t : TmuResult) =>
      if t.gatesLeft ≤ 1 then t.idle
      else { t with gatesLeft := t.gatesLeft - 1, gateOpen := t.gateOpen + 16 * x.tmu.gate, inGate := 0, pendingStart := none }
    match x.tmu.mode with
    | .armed => { x with tmuResult := (t.missed x.undecided).idle }
    | .frequency =>
      { x with tmuResult := next (if t.inGate < 2 then t.missed 1
          else t.sample x.tmu.sampleLimit (meanPeriod (t.last - t.first) (t.inGate - 1)) t.gateJoker t.gateSuspect) }
    | .interval => { x with tmuResult := next (t.missed x.undecided) }
    | _ => x

/-! ### TmuConfig (R166 to R168) -/

/-- Options as a word (R167). -/
def TmuConfig.options (t : TmuConfig) : Nat :=
  t.holdOff + t.polarity * 2 ^ 16 + b2n t.eventOpen * 2 ^ 18 + b2n t.stampMasked * 2 ^ 19 + t.ordinalMask * 2 ^ 20
/-- Partner as a byte (R167). -/
def TmuConfig.partner (t : TmuConfig) : Nat := t.stopPosition + t.stopPolarity * 2 ^ 4

/-- A TMU mode code (R166). -/
def tmuMode (v : Nat) : TmuMode :=
  match v with | 0 => .off | 1 => .inline | 2 => .armed | 3 => .frequency | _ => .interval

/-- State follows Mode (R171). -/
def TmuResult.onMode (t : TmuResult) (m : TmuMode) : TmuResult :=
  if m = .off then { t with state := .off, inGate := 0, gatesLeft := 0, pendingStart := none, lastAccepted := none, lastStop := none }
  else if t.state = .off then { t with state := .idle } else t

/-- Auto goes with Inline only (R168). -/
def autoCheck (mode : TmuMode) (polarity : Nat) : Check := (decide (polarity = 3 ∧ mode ≠ .inline), 7, 4)

/-- What the region and the stamper say against a write of TmuConfig (R168). -/
def Device.tmuBusy (d : Device) (c : CellIx) : List Check :=
  [d.busyCheck (cellRegion c), (decide (d.cells[c].tmuResult.state = .capturing), 5, 3)]

/-- Writes of TmuConfig (R166 to R168). -/
def specTmu (c : CellIx) (sub v : Nat) (d : Device) : WSpec :=
  let t := d.cells[c].tmu
  let set := fun (f : TmuConfig → TmuConfig) (d : Device) => d.onCell c fun x => { x with tmu := f x.tmu }
  match sub with
  | 1 => { len := 1, state := d.tmuBusy c, value := [codeCheck v 5, autoCheck (tmuMode v) t.polarity]
           apply := fun d => d.onCell c fun x =>
             { x with tmu := { x.tmu with mode := tmuMode v }, tmuResult := x.tmuResult.onMode (tmuMode v) } }
  | 2 => { len := 4, state := d.tmuBusy c
           value := [inRangeN (field v 0 13) 0 4096, autoCheck t.mode (field v 16 2)]
           apply := set fun t => { t with holdOff := field v 0 13, polarity := field v 16 2, eventOpen := bitAt v 18
                                          stampMasked := bitAt v 19, ordinalMask := field v 20 4 } }
  | 3 => { len := 4, state := d.tmuBusy c, apply := set fun t => { t with refOffset := signed 32 v } }
  | 4 => { len := 8, state := d.tmuBusy c, value := [inRangeN v 1 (2 ^ 32)], apply := set fun t => { t with sampleLimit := v } }
  | 5 => { len := 8, state := d.tmuBusy c, value := [inRangeN v 2048 3276800000000], apply := set fun t => { t with gate := v } }
  | 6 => { len := 2, state := d.tmuBusy c, value := [inRangeN v 1 65535], apply := set fun t => { t with armCount := v } }
  | 7 => { len := 4, state := d.tmuBusy c, value := [inRangeN v 1 0xFFFFFFFF], apply := set fun t => { t with repeats := v } }
  | 8 => { len := 1, state := d.tmuBusy c, value := [codeCheck v 3], apply := set fun t => { t with armSource := v } }
  | _ => { len := 1, state := d.tmuBusy c, value := [(decide (field v 4 2 = 3), 7, 2)]
           apply := set fun t => { t with stopPosition := field v 0 4, stopPolarity := field v 4 2 } }

/-- TmuConfig.Command (R168). -/
def specTmuCmd (c : CellIx) (v : Nat) (d : Device) : WSpec :=
  let x := d.cells[c]
  match v with
  | 1 =>
    let gated := match x.tmu.mode with | .armed | .frequency | .interval => true | _ => false
    let m := d.regions[cellRegion c].mode
    { len := 1
      state := [(decide (m ≠ .ready ∧ m ≠ .run), 5, 1),
                (!gated || decide (x.tmu.armSource ≠ 0) || decide (x.tmuResult.state ≠ .idle), 5, 3)]
      apply := fun d => d.onCell c fun x => x.arm d.nextFclk }
  | 2 =>
    { len := 1
      apply := fun d => d.onCell c fun x =>
        if x.tmuResult.gating then { x with tmuResult := (x.tmuResult.missed x.undecided).idle, windows := [] } else x }
  | 3 =>
    { len := 1, state := [(decide (x.tmuResult.state = .capturing), 5, 3)]
      apply := fun d => d.onCell c fun x => { x with tmuResult := x.tmuResult.clear } }
  | _ => { len := 1, value := [codeCheck v 4], apply := id }

/-- TMU_MODE_WRITE (R171). -/
def execTmuModeWrite (h : Hdr) (c : CellIx) (w : Data) (s : State) : Host.Outcome State Fault Refusal :=
  onDev s fun d => d.writeReg h (cellTarget c 5 1) w fun _ => specTmu c 1 w.val
/-- TMU_ARM (R168). -/
def execTmuArm (h : Hdr) (c : CellIx) (s : State) : Host.Outcome State Fault Refusal :=
  onDev s fun d => d.writeCmd h (cellTarget c 5 0xA) 1 fun _ => specTmuCmd c 1
/-- TMU_DISARM (R168). -/
def execTmuDisarm (h : Hdr) (c : CellIx) (s : State) : Host.Outcome State Fault Refusal :=
  onDev s fun d => d.writeCmd h (cellTarget c 5 0xA) 2 fun _ => specTmuCmd c 2
/-- TMU_CLEAR_RESULTS (R168). -/
def execTmuClearResults (h : Hdr) (c : CellIx) (s : State) : Host.Outcome State Fault Refusal :=
  onDev s fun d => d.writeCmd h (cellTarget c 5 0xA) 3 fun _ => specTmuCmd c 3
/-- TMU_WINDOW_CLOSE (R157, R158): the oldest window that has been judged and not decided. -/
def execTmuWindowClose (c : CellIx) (s : State) : Host.Outcome State Fault Refusal :=
  onDev s fun d =>
    let suspect := d.judgeSuspect c
    d.onCell c fun x =>
      match x.windows with
      | [] => x
      | w :: rest => { x with windows := rest, tmuResult := x.tmuResult.decide' x.tmu w suspect }
/-- TMU_GATE_CLOSE (R160 to R162). -/
def execTmuGateClose (c : CellIx) (s : State) : Host.Outcome State Fault Refusal :=
  onDev s fun d => d.onCell c Cell.gateClose

end Sys2Proof.Machine
end

