-- ==== Sys2Proof/Machine/Cells.lean ====
section
/-!
DEFINITION. The cell: driver, comparator, levels, pin switches, strobe events and their counters (R100 to R126), the
free-running clock (R44), and the commands of ch. 4.
-/
namespace Sys2Proof.Machine

/-! ### The driver (R102, R103, R124, R126) -/

/-- FormatTerm.TermMode (R109). -/
def Cell.termMode (x : Cell) : Nat := field x.formatTerm.toNat 0 2
/-- FormatTerm.DataInvert (R109). -/
def Cell.invert (x : Cell) : Bool := x.formatTerm.getLsbD 6
/-- FormatTerm.MaskAll (R109). -/
def Cell.maskAll (x : Cell) : Bool := x.formatTerm.getLsbD 7
/-- CellState.Status.DriverTripped: a cell trip or a rail trip is in force (R126, R240). -/
def Cell.tripped (x : Cell) : Bool := x.sentinel.tripped || x.railTrip

/-- The driver of the unit on the ball reaches it; on the way to DigitalLoad from the closing of the digital switch on (R121). -/
def Path.driven (p : Path) : Bool :=
  match p.state with
  | .digital | .digitalLoad => true
  | .joker | .bridge => decide (p.request = .digital)
  | .switching => p.swDigital && decide (p.step = some .closing)
  | _ => false

/-- An edge, or StaticDrive, asks for a state of the driver; a trip keeps it off (R126). -/
def Cell.drive (x : Cell) (v : Drive) : Cell :=
  { x with path := { x.path with want := v, driver := if x.path.driven && !x.tripped then v else .off } }

/-- The same at a time, which is remembered where the driver changes (R187). -/
def Cell.driveAt (x : Cell) (t : Nat) (v : Drive) : Cell :=
  let y := x.drive v
  if y.path.driver = x.path.driver then y else { y with lastMove := some t }

/-- The level that drives a data bit (R103). -/
def Cell.levelOf (x : Cell) (high : Bool) : Drive := if high.xor x.invert then .high else .low

/-- The driver state that StaticDrive calls for (R124). -/
def Path.static (p : Path) : Drive :=
  match p.staticDrive with
  | .off => .off
  | .low => .low
  | .high => .high
  | .pattern => p.want

/-- A trip is released and no other is in force: outside a run the driver takes its state at once, in a run at its next
edge (R126). -/
def Cell.freed (x : Cell) (running : Bool) : Cell :=
  if x.tripped || running then x else x.drive x.path.static

/-! ### The comparator (R101, R105) -/

/-- The input lies above a threshold, given as a level in codes, by more than `half` µV (R105). -/
def aboveBy (uv code half : Int) : Bool := decide (7500000 * code < (uv + 1500000 - half) * 65535)
/-- The input lies below a threshold by more than `half` µV. -/
def belowBy (uv code half : Int) : Bool := decide ((uv + 1500000 + half) * 65535 < 7500000 * code)

/-- One threshold comparator (R105; log entry 43). -/
def comparator (prev : Option Bool) (uv code half : Int) : Bool :=
  match prev with
  | none => aboveBy uv code 0
  | some p => if aboveBy uv code half then true else if belowBy uv code half then false else p

/-- A class from the two comparator outputs (R105), in symbol terms (R103). -/
def classOf (voh vol : Bool) (invert : Bool) : Cls :=
  if voh then (if invert then .low else .high) else if !vol then (if invert then .high else .low) else .mid

/-- The side of VOH, and of VOL, on which the input lies: what a comparator without a previous output takes (R105). A unit that takes
the pin over has the pending of the other (R189), so the cell's own corrections serve for both. -/
def Cell.overVoh (x : Cell) : Bool := aboveBy x.input (x.cal.level 3 x.dacs.voh) 0
def Cell.overVol (x : Cell) : Bool := aboveBy x.input (x.cal.level 4 x.dacs.vol) 0

/-- The class of the pin now; before any crossing the comparator takes the side of the input (R105). -/
def Cell.cls (x : Cell) : Cls := classOf (x.voh.getD x.overVoh) (x.vol.getD x.overVol) x.invert

/-- The comparator's path closes: it takes the side on which the input lies (R105). -/
def Cell.closeComparator (x : Cell) : Cell := { x with voh := some x.overVoh, vol := some x.overVol }

/-- The incoming unit's comparator closes at the start of a Bridge (R105, R188). -/
def Cell.closeIncoming (x : Cell) : Cell := { x with voh2 := some x.overVoh, vol2 := some x.overVol }

/-- The level DACs at the nearest codes of the written levels (R101, R108). -/
def Cell.levelDacs (x : Cell) : Dacs :=
  { x.dacs with vih := levelCode x.levels.vih, vil := levelCode x.levels.vil, vt := levelCode x.levels.vt
                voh := levelCode x.levels.voh, vol := levelCode x.levels.vol }

/-- A threshold while its DAC settles lies between the old and the new value; where is free (R108; log entry 6). -/
def settling (old new : Int) (n : Nat) : Int := min old new + (Config.unstated n % ((old - new).natAbs + 1) : Nat)

/-- The level DACs of a cell at an instant while they settle (R108). -/
def Cell.present (x : Cell) (n : Nat) : Dacs :=
  let y := x.levelDacs
  { x.dacs with vih := settling x.dacs.vih y.vih n, vil := settling x.dacs.vil y.vil (n + 1), vt := settling x.dacs.vt y.vt (n + 2)
                voh := settling x.dacs.voh y.voh (n + 3), vol := settling x.dacs.vol y.vol (n + 4) }

/-- The level DACs move: Levels has been written and no clear holds them (R108, R223). -/
def Cell.levelsMove (x : Cell) : Bool := x.path.levelsSettling && !x.pmuStatus.clearHeld

/-- The codes that the level DACs of the unit that holds a pin are given (R101, R176). -/
def Device.dacCodes (d : Device) (c : CellIx) : Dacs := (d.judge c).dacCodes d.cells[c].dacs

/-- The thresholds present now, in codes: VOH, VOL (R101, R108, R181). -/
def Device.thresholds (d : Device) (c : CellIx) : Int × Int :=
  let x := d.cells[c]
  let p := if x.levelsMove then x.present d.free else x.dacs
  ((d.judge c).level 3 p.voh, (d.judge c).level 4 p.vol)

/-- The comparator of the cell itself is behind a closed digital switch while the path is still Switching on its way to DigitalLoad
(R105, R121). -/
def Path.early (p : Path) : Bool := decide (p.state = .switching) && p.swDigital && decide (p.step = some .closing)

/-- The comparator sees a voltage under given thresholds; during a Bridge the incoming unit's comparator sees it too. -/
def Cell.see (x : Cell) (uv voh vol : Int) : Cell :=
  let half := 500 * x.levels.hyst
  let x := { x with input := uv }
  let x := if x.path.compares || x.path.early then
    { x with voh := some (comparator x.voh uv voh half), vol := some (comparator x.vol uv vol half) } else x
  if x.path.state = .bridge then
    { x with voh2 := some (comparator x.voh2 uv voh half), vol2 := some (comparator x.vol2 uv vol half) } else x

/-- Free values are taken while the thresholds move. -/
def Device.settleFree (d : Device) (c : CellIx) : Device := if d.cells[c].levelsMove then { d with free := d.free + 5 } else d

/-- The level DACs of a cell stand where they are now, before they move to other values (R108). -/
def Device.settleNow (d : Device) (c : CellIx) : Device :=
  (d.settleFree c).onCell c fun x => if x.levelsMove then { x with dacs := x.present d.free } else x

/-! ### Strobe events (R39, R111) -/

/-- What an event expects, or that it is masked; T looks at the last sample (R39). -/
def Ask.expects (a : Ask) (last : Option Cls) : Option Expect :=
  match a with
  | .low => some .low
  | .high => some .high
  | .mid => some .mid
  | .lowOrHigh => some .lowOrHigh
  | .opposite => match last with
    | some .low => some .high
    | some .high => some .low
    | _ => none
  | .masked => none

/-- A class is an expected one (R39). -/
def Expect.meets (e : Expect) (c : Cls) : Bool :=
  match e, c with
  | .low, .low | .high, .high | .mid, .mid | .lowOrHigh, .low | .lowOrHigh, .high => true
  | _, _ => false

/-- Classes seen inside a window mode 1 strobe: any other than the expected one fails it (R53). -/
def Strobe.see (s : Strobe) (last : Option Cls) (t : Int) (seen : List Cls) : Strobe :=
  match s.ask.expects last with
  | some e =>
    if s.mode = 1 ∧ (16 * s.opens : Int) ≤ t ∧ t ≤ 16 * s.closes ∧ seen.any (fun c => !e.meets c) then { s with bad := true }
    else s
  | none => s

/-- The tap in which a place within TCLK falls, 1/16 fu (R152). -/
def tapAt : List Nat → Nat → Nat → Nat
  | [], k, _ => k
  | w :: rest, k, x => if x < w ∨ rest = [] then k else tapAt rest (k + 1) (x - w)

/-- The stamp of an event that happens now (R152). -/
def Device.stampNow (d : Device) (c : CellIx) : Int :=
  let taps := (d.judge c).taps
  stampOf taps (d.time / 1024) (tapAt taps 0 (d.time % 1024 * 16))

/-- What a comparator that reaches the ball makes of a voltage under its thresholds, or of thresholds that have moved, at a time: its
outputs, what window strobes see, and the events of stampers (R53, R105, R153). The class passes mid when both comparators change. -/
def Device.look (d : Device) (c : CellIx) (uv voh vol t : Int) : Device :=
  let x := d.cells[c]
  let y := x.see uv voh vol
  if !x.path.compares then d.onCell c fun _ => y
  else
    let rose := x.voh = some false && y.voh = some true
    let fell := x.vol = some true && y.vol = some false
    let both := decide (x.voh ≠ y.voh) && decide (x.vol ≠ y.vol) && x.voh.isSome
    let seen := x.cls :: y.cls :: (if both then [Cls.mid] else [])
    let d := d.onCell c fun _ => { y with strobes := y.strobes.map fun s => s.see x.lastSample t seen }
    let d := if fell then d.stamperEvent c x.invert t else d
    if rose then d.stamperEvent c (!x.invert) t else d

/-- The comparator looks at its input again, the thresholds having moved (R105, R108, R223). -/
def Device.lookAgain (d : Device) (c : CellIx) : Device :=
  let (voh, vol) := d.thresholds c
  (d.settleFree c).look c d.cells[c].input voh vol (d.stampNow c)

/-- COMPARATOR_CROSSING (R105, R153): the voltage, and where in TCLK the crossing falls. -/
def Device.crossing (d : Device) (c : CellIx) (uv : Int) (coarse tap : Nat) : Device :=
  let (voh, vol) := d.thresholds c
  (d.settleFree c).look c uv voh vol (stampOf (d.judge c).taps coarse tap)

/-- The outcome of a strobe event (R111). -/
inductive Outcome where
  | masked | pass | fail
  deriving DecidableEq, Repr

/-- The judgement of a strobe event with the class seen (R111). -/
def Strobe.judge (s : Strobe) (reaches : Bool) (last : Option Cls) (seen : Cls) : Outcome :=
  if !reaches || s.maskAll then .masked
  else match s.ask.expects last with
    | none => .masked
    | some e => if e.meets seen && !s.bad then .pass else .fail

/-- One event judged counts once in Strobes and once in its outcome (R114). -/
def StrobeCounters.count (k : StrobeCounters) (o : Outcome) : StrobeCounters :=
  match o with
  | .pass => { k with strobes := k.strobes + 1, pass := k.pass + 1 }
  | .fail => { k with strobes := k.strobes + 1, fail := k.fail + 1 }
  | .masked => { k with strobes := k.strobes + 1, masked := k.masked + 1 }

/-- The first fail of the run at the cell (R118). -/
def Strobe.firstFail (s : Strobe) (seen : Cls) (e : Expect) : FirstFail where
  cycle := s.cycle
  wraps := s.wraps
  index := s.index
  address := s.address
  tset := s.tset
  observed := seen
  expected := e
  ordinal := s.ordinal

/-- The event is an opportunity of Inline mode (R156). -/
def Cell.opportunity (x : Cell) (s : Strobe) (o : Outcome) (reaches : Bool) : Bool :=
  let live := match x.tmuResult.state with | .capturing | .complete | .paused => true | _ => false
  decide (s.mode = 2) && decide (x.tmu.mode = .inline) && live && bitAt x.tmu.ordinalMask s.ordinal &&
    reaches && (decide (o ≠ .masked) || x.tmu.stampMasked)

/-- The cell after the head strobe event is judged (R111, R113, R118, R156). -/
def Cell.judged (x : Cell) (s : Strobe) (rest : List Strobe) (o : Outcome) (reaches : Bool) : Cell :=
  let seen := x.cls
  let e := if s.maskAll then none else s.ask.expects x.lastSample
  { x with strobes := rest
           counters := x.counters.count o
           firstFail := if o = .fail then x.firstFail.or (some (s.firstFail seen (e.getD .low))) else x.firstFail
           lastStrobe := if s.ask = .masked then x.lastStrobe else some s.closes
           lastSample := if reaches then some seen else x.lastSample
           windows := if x.opportunity s o reaches then
             x.windows ++ [{ start := s.start, opens := s.opens, shift := s.shift, expect := e, rise := s.rise, fall := s.fall }] else x.windows }

/-- The place of the owning vector in issue order, which does not wrap. -/
def Strobe.order (s : Strobe) : Nat := s.wraps * 2 ^ 48 + s.cycle

/-- The vector that owns an event learns its outcome (R112). -/
def VecRec.judge (v : VecRec) (p : Nat) (o : Outcome) (joker : Bool) : VecRec :=
  let bit : BitVec 64 := BitVec.ofNat 64 (2 ^ p)
  { v with pending := v.pending - 1
           failMask := if o = .fail then v.failMask ||| bit else v.failMask
           judged := if o = .masked then v.judged else v.judged ||| bit
           joker := if o = .fail && joker then v.joker ||| bit else v.joker }

/-- STROBE_EVENT: the oldest strobe event that waits at the cell is judged once (R55, R111, R117). -/
def Device.strobe (d : Device) (c : CellIx) : Device :=
  match d.cells[c].strobes with
  | [] => d
  | s :: _ =>
    let d := if d.cells[c].levelsMove then d.lookAgain c else d
    let x := d.cells[c]
    let s := x.strobes.headD s
    let rest := x.strobes.drop 1
    let reaches := x.path.compares
    let o := s.judge reaches x.lastSample x.cls
    let joker := x.path.byJoker
    let q : Result := { order := s.order, pos := cellBit c, closes := s.closes, judged := decide (o ≠ .masked), failed := decide (o = .fail) }
    (d.onCell c fun _ => x.judged s rest o reaches).onRegion (cellRegion c) fun r =>
      { r with vecs := r.vecs.map fun v => if v.order = s.order then v.judge (cellBit c) o joker else v
               lagged := r.lagged ++ [q] }

/-! ### Drive edges and the free-running clock (R44, R52) -/

/-- A request of a vector to the clock takes effect at the vector's start (R44, R61). One that comes before the edge that the last one
waits for takes its place: a running symbol undoes a gating or a Z that has not acted yet (log entry 39). -/
def Cell.frcCtl (x : Cell) (q : FrcCtl) : Cell :=
  match q.op with
  | .stop => { x with frc := { x.frc with running := false } }
  | .restart d0 d1 d2 =>
    { x with frc := { x.frc with running := true, d0, d1, d2, next := q.at' + d0, rises := true, gate := .run, want := .run,
                                 wantOff := false, off := false, stopping := false } }
  | .want g => { x with frc := { x.frc with want := g, wantOff := false } }
  | .shift n => { x with frc := { x.frc with next := ((x.frc.next : Int) + n).toNat } }
  | .z =>
    let y := { x with frc := { x.frc with wantOff := true } }
    if x.frc.running ∧ x.frc.gate = .low then ({ y with frc := { y.frc with off := true } }).driveAt q.at' .off else y

/-- Requests that are due before the clock's next edge; with the clock at rest, all up to the next start. -/
def Cell.frcDue (x : Cell) : List FrcCtl → Cell
  | [] => { x with frc := { x.frc with ctl := [] } }
  | q :: rest =>
    if x.frc.running && decide (x.frc.next < q.at') then { x with frc := { x.frc with ctl := q :: rest } }
    else (x.frcCtl q).frcDue rest

/-- The requests that are due by a time, as far as no edge of the clock comes before them. -/
def Cell.frcUntil (x : Cell) (t : Nat) : Cell :=
  let later := x.frc.ctl.filter fun q => decide (t < q.at')
  let y := x.frcDue (x.frc.ctl.filter fun q => decide (q.at' ≤ t))
  { y with frc := { y.frc with ctl := y.frc.ctl ++ later } }

/-- DRIVE_EDGE: the oldest drive edge that waits at the cell happens (R37, R52, R102). -/
def Cell.edge (x : Cell) : Cell :=
  match x.edges with
  | [] => x
  | e :: rest =>
    let x := { x with edges := rest }
    match e.act with
    | .off => x.driveAt e.at' .off
    | .level high => x.driveAt e.at' (x.levelOf high)
    | .clock => x.frcUntil e.at'

/-- A scheduled rising edge (R44). -/
def Cell.frcRise (x : Cell) : Cell :=
  let t := x.frc.next
  let f : Frc := { x.frc with next := t + x.frc.d1, rises := false }
  let x := { x with frc := f }
  let on := fun (g : FrcGate) => ({ x with frc := { f with gate := g, off := false } }).driveAt t (x.levelOf true)
  if f.stopping || f.wantOff then (if f.stopping || f.off then x else if f.gate = .low then x else on f.gate)
  else match f.want with
    | .low => if f.off || decide (f.gate = .low) then x else on f.gate
    | .run => on .run
    | .high => on .high

/-- A scheduled falling edge (R44, R97). -/
def Cell.frcFall (x : Cell) : Cell :=
  let t := x.frc.next
  let f : Frc := { x.frc with next := t + (x.frc.d2 - x.frc.d1), rises := true, running := x.frc.running && !x.frc.stopping }
  let x := { x with frc := f }
  let down := fun (g : FrcGate) => ({ x with frc := { f with gate := g, off := false } }).driveAt t (x.levelOf false)
  if f.wantOff then (if f.off then x else ({ x with frc := { f with off := true } }).driveAt t .off)
  else if f.off then (if f.want = .low ∧ !f.stopping then down .low else x)
  else if f.stopping then down f.gate
  else match f.want, f.gate with
    | .high, .high => x
    | .low, _ => down .low
    | .high, .low => x
    | .high, .run => down .run
    | .run, _ => down .run

/-- FRC_EDGE: the clock's next scheduled edge (R44). -/
def Cell.frcEdge (x : Cell) : Cell :=
  let x := x.frcDue x.frc.ctl
  if !x.frc.running then x else if x.frc.rises then x.frcRise else x.frcFall

/-! ### Levels (R107, R108) -/

/-- Five levels within their range, and hysteresis (R107). -/
def Levels.checks (l : Levels) : List Check :=
  [inRange l.vih (-1500000) 6000000, inRange l.vil (-1500000) 6000000, inRange l.vt (-1500000) 6000000,
   inRange l.voh (-1500000) 6000000, inRange l.vol (-1500000) 6000000, inRangeN l.hyst 0 50,
   (decide (l.vih < l.vil), 7, 4), (decide (l.voh - l.vol < 1000 * l.hyst), 7, 4)]

/-- Levels after a write of a subindex (R107). -/
def Levels.put (l : Levels) (sub v : Nat) : Levels :=
  match sub with
  | 1 => { l with vih := signed 32 v }
  | 2 => { l with vil := signed 32 v }
  | 3 => { l with vt := signed 32 v }
  | 4 => { l with voh := signed 32 v }
  | 5 => { l with vol := signed 32 v }
  | 6 => { l with hyst := v }
  | _ => { vih := signed 32 (field v 0 32), vil := signed 32 (field v 32 32), vt := signed 32 (field v 64 32),
           voh := signed 32 (field v 96 32), vol := signed 32 (field v 128 32), hyst := field v 160 8 }

/-- The admission result of a region, and in coupled operation of both, is no longer current (R91; log entry 34). -/
def Device.invalidate (d : Device) (r : RegionIx) : Device :=
  let drop := fun (x : Region) =>
    { x with adm := if x.adm.result = .evaluating then x.adm else { x.adm with result := .none } }
  let d := d.onRegion r drop
  if d.modes.coupled then d.onRegion (partner r) drop else d

/-- R59 holds for new levels of a cell in the run in progress, for the sets and pairs of its own admission (R60, R107). -/
def Device.swingOk (d : Device) (c : CellIx) (l : Levels) : Bool :=
  let x := d.regions[cellRegion c]
  l.swingOk (x.placeIntervals (cellBit c) x.run.sets x.run.pairs)

/-- Outside Run no quiet point lies in the 1 µs after an accepted change (R187). -/
def Device.noQuiet (d : Device) (c : CellIx) : Device := d.onCell c fun x => { x with quietFrom := d.time + 3276800 }

/-- Levels are stored; unless a clear holds the DACs they begin to settle (R108, R225). -/
def Cell.storeLevels (x : Cell) (l : Levels) : Cell :=
  let y := { x with levels := l }
  if x.pmuStatus.clearHeld then y
  else { y with path := { y.path with levelsSettling := x.path.levelsSettling || decide (y.levelDacs ≠ x.dacs) } }

/-- A write of Levels or LevelBlock (R107, R108). -/
def specLevels (c : CellIx) (sub v : Nat) (d : Device) : WSpec :=
  let r := cellRegion c
  let old := d.cells[c].levels
  let l := old.put sub v
  { len := if sub = 0x10 then 24 else if sub = 6 then 1 else 4
    access := [subCheck [1, 2, 3, 4, 5, 6, 0x10] sub]
    state := [(decide (d.regions[r].mode = .calibrate), 5, 1)]
    value := l.checks ++ [(decide (d.regions[r].mode = .run) && !d.swingOk c l, 7, 4)]
    apply := fun d =>
      let d := (((d.settleNow c).onCell c fun x => (x.storeLevels l).blankWrite).noQuiet c)
      if l.vih ≠ old.vih ∨ l.vil ≠ old.vil then d.invalidate r else d }

/-- Every changed level DAC has settled (R108). -/
def Cell.levelsSettled (x : Cell) : Cell :=
  { x with path := { x.path with levelsSettling := false }, dacs := if x.pmuStatus.clearHeld then x.dacs else x.levelDacs }

/-- LEVELS_SETTLED: a comparator whose threshold moved past its input changes (R105, R108). -/
def Device.levelsSettled (d : Device) (c : CellIx) : Device :=
  if d.cells[c].path.levelsSettling then (d.onCell c Cell.levelsSettled).lookAgain c else d

/-! ### FormatTerm (R109, R110) -/

/-- The path follows a TermMode change (R121). -/
def Cell.termPath (x : Cell) (tm : Nat) : Cell :=
  match x.path.state with
  | .digital => if tm = 2 then ({ x with path := { x.path with state := .digitalLoad, swPmu := true } }).blankWrite else x
  | .digitalLoad => if tm ≠ 2 then ({ x with path := { x.path with state := .digital, swPmu := false } }).blankWrite else x
  | _ => x

/-- A write of FormatTerm (R109, R110; log entry 43). -/
def specFormatTerm (c : CellIx) (v : Nat) (d : Device) : WSpec :=
  let new : BitVec 32 := BitVec.ofNat 32 v &&& 0xC3
  let old := d.cells[c].formatTerm
  { len := 4
    state := [(d.regions[cellRegion c].busyMode && decide (new &&& 0x43 ≠ old &&& 0x43), 5, 1)]
    value := [(decide (field v 0 2 = 3), 7, 2)]
    apply := fun d => d.onCell c fun x =>
      { (x.termPath (field v 0 2)) with
          formatTerm := new
          strobes := x.strobes.map fun s => if d.time < s.start then { s with maskAll := new.getLsbD 7 } else s } }

/-! ### Strobe counters -/

/-- A write of StrobeCounters.Clear (R113, R114). -/
def specStrobeClear (c : CellIx) (v : Nat) (d : Device) : WSpec where
  len := 1
  state := [d.busyCheck (cellRegion c)]
  value := [boolCheck v]
  apply := fun d => if v = 1 then d.onCell c fun x => { x with counters := {} } else d

/-! ### The pin switches (R119 to R124) -/

/-- CellState.Status.Remapped. -/
def pathReq (v : Nat) : PathReq := match v with | 0 => .isolated | 1 => .digital | _ => .parametric

/-- The driver is off and a Pattern reads Off (R124). -/
def Path.turnOff (p : Path) : Path :=
  { p with driver := .off, want := .off, staticDrive := if p.staticDrive = .pattern then .off else p.staticDrive }

/-- The digital switch closes with the driver in the StaticDrive state (R121, R105). -/
def Cell.closeDigital (x : Cell) (load : Bool) : Cell :=
  let x := { x with path := { x.path with state := if load then .digitalLoad else .digital, swDigital := true, swPmu := load, step := none } }
  (x.drive x.path.static).closeComparator.blankWrite

/-- The PMU switch closes in the parametric role. -/
def Cell.closePmu (x : Cell) : Cell :=
  ({ x with path := { x.path with state := .parametric, swPmu := true, step := none } }).blankWrite

/-- The Joker switch of a remapped cell closes, and the Joker's units take up the role that PathRequest asks for (R121). -/
def Cell.closeJoker (x : Cell) : Cell :=
  let fresh := x.path.state ≠ .joker
  let x := { x with path := { x.path with state := .joker, swJoker := true, swDigital := false, swPmu := false, step := none } }
  let x := x.drive (if x.path.request = .digital then x.path.static else .off)
  if fresh then x.closeComparator.blankWrite else x

/-- PathRequest takes a new value (R121; log entry 44). -/
def Cell.requestPath (x : Cell) (p : PathReq) : Cell :=
  if p = x.path.request then x
  else
    let x := { x with frc := {}, path := { x.path with request := p } }
    match p with
    | .isolated => x.openAll
    | _ =>
      if x.path.remapped then ({ x with path := if p = PathReq.digital then x.path else x.path.turnOff }).closeJoker
      else match x.path.state with
        | .isolated => if p = .digital then x.closeDigital (x.termMode = 2) else x.closePmu
        | _ => ({ x with path := { x.path.turnOff with state := .switching, step := some .opening } }).blankWrite

/-- A switch is sensed in its new state, or a gap ends (R121; log entry 44). -/
def Cell.switched (x : Cell) : Cell :=
  match x.path.step with
  | some .opening =>
    if x.path.swDigital ∧ x.path.swPmu then { x with path := { x.path with swDigital := false } }
    else { x with path := { x.path with swDigital := false, swPmu := false, step := some .gap }, cal := x.cal.leave }
  | some .gap => { x with path := { x.path with step := some .closing } }
  | some .closing =>
    if x.path.request = .parametric then x.closePmu
    else if x.termMode = 2 then
      if x.path.swDigital then
        let v := x.voh
        let w := x.vol
        { x.closeDigital true with voh := v, vol := w }
      else
        let x := { x with path := { x.path with swDigital := true } }
        (x.drive x.path.static).closeComparator
    else x.closeDigital false
  | _ => x

/-- The stored PMU values at the DACs (R211, R226). -/
def Cell.pmuDacs (x : Cell) : Dacs :=
  { x.dacs with force := forceCode (x.pmu.forceVoltage + x.dds.term), clampVHigh := x.pmu.clampVHigh, clampVLow := x.pmu.clampVLow,
                clampIHigh := x.pmu.clampIHigh, clampILow := x.pmu.clampILow
                forceI := currentCode x.pmuStatus.stageRange x.pmu.forceCurrent
                loadSource := x.pmu.loadSource, loadSink := x.pmu.loadSink }

/-- The DACs take the stored PMU values, and so does a stage that a range change has preset (R211, R212). -/
def Cell.toDacs (x : Cell) : Cell :=
  let k := x.pmuDacs
  { x with dacs := k, pmuStatus := { x.pmuStatus with idle := x.pmuStatus.idle.map fun g =>
      { g.follow k with forceI := currentCode g.range x.pmu.forceCurrent } } }

/-- Restore: every stored value reaches its DAC, the level DACs under R108 (R225). -/
def Cell.restore (x : Cell) : Cell :=
  let x := { x with pmuStatus := { x.pmuStatus with clearHeld := false, firstRestore := false }
                    dds := { x.dds with applied := x.dds.amplitude } }
  let x := x.toDacs
  { x with path := { x.path with levelsSettling := decide (x.levelDacs ≠ x.dacs) } }

/-- A write of PathRequest (R121, R122, R225). -/
def specPathRequest (c : CellIx) (v : Nat) (d : Device) : WSpec :=
  let x := d.cells[c]
  { len := 1
    state := [d.busyCheck (cellRegion c),
              (x.path.substituted || d.folded c || (decide (x.path.state = .switching) && decide (v = 1 ∨ v = 2)), 5, 3)]
    value := [codeCheck v 3]
    apply := fun d => d.onCell c fun x =>
      let x := (x.requestPath (pathReq v)).blankWrite
      if x.pmuStatus.firstRestore && d.modes.clrN then x.restore else x }

/-- A write of StaticDrive (R124). Pattern is a value that cannot be written (log entry 44). -/
def specStaticDrive (c : CellIx) (v : Nat) (d : Device) : WSpec where
  len := 1
  state := [d.busyCheck (cellRegion c)]
  value := [codeCheck v 4, (decide (v = 3), 7, 1)]
  apply := fun d =>
    (d.onCell c fun x =>
      let x := { x with frc := {}, path := { x.path with staticDrive := match v with | 0 => .off | 1 => .low | _ => .high } }
      x.drive x.path.static).noQuiet c

/-! ### The commands -/

/-- DRIVE_EDGE (R52). -/
def execDriveEdge (c : CellIx) (s : State) : Host.Outcome State Fault Refusal := onDev s fun d => d.onCell c Cell.edge
/-- FRC_EDGE (R44). -/
def execFrcEdge (c : CellIx) (s : State) : Host.Outcome State Fault Refusal := onDev s fun d => d.onCell c Cell.frcEdge
/-- STROBE_EVENT (R111). -/
def execStrobeEvent (c : CellIx) (s : State) : Host.Outcome State Fault Refusal := onDev s fun d => d.strobe c
/-- COMPARATOR_CROSSING (R105). -/
def execComparatorCrossing (c : CellIx) (uv : Int) (coarse : Nat) (tap : Fin 128) (s : State) : Host.Outcome State Fault Refusal :=
  onDev s fun d => d.crossing c uv coarse tap
/-- LEVELS_WRITE (R107). -/
def execLevelsWrite (h : Hdr) (c : CellIx) (sub : Nat) (w : Data) (s : State) : Host.Outcome State Fault Refusal :=
  onDev s fun d => d.writeReg h (cellTarget c 1 sub) w fun _ => specLevels c sub w.val
/-- LEVELS_SETTLED (R108). -/
def execLevelsSettled (c : CellIx) (s : State) : Host.Outcome State Fault Refusal := onDev s fun d => d.levelsSettled c
/-- FORMAT_TERM_WRITE (R110). -/
def execFormatTermWrite (h : Hdr) (c : CellIx) (w : Data) (s : State) : Host.Outcome State Fault Refusal :=
  onDev s fun d => d.writeReg h (cellTarget c 2 0) w fun _ => specFormatTerm c w.val
/-- STROBE_COUNTERS_CLEAR (R114). -/
def execStrobeCountersClear (h : Hdr) (c : CellIx) (w : Data) (s : State) : Host.Outcome State Fault Refusal :=
  onDev s fun d => d.writeReg h (cellTarget c 0xA 7) w fun _ => specStrobeClear c w.val
/-- PATH_REQUEST_WRITE (R122). -/
def execPathRequestWrite (h : Hdr) (c : CellIx) (w : Data) (s : State) : Host.Outcome State Fault Refusal :=
  onDev s fun d => d.writeReg h (cellTarget c 0 1) w fun _ => specPathRequest c w.val
/-- STATIC_DRIVE_WRITE (R124). -/
def execStaticDriveWrite (h : Hdr) (c : CellIx) (w : Data) (s : State) : Host.Outcome State Fault Refusal :=
  onDev s fun d => d.writeReg h (cellTarget c 0 3) w fun _ => specStaticDrive c w.val

end Sys2Proof.Machine
end

