-- ==== Sys2Proof/Machine/Pmu.lean ====
section
/-!
DEFINITION. The PMU of a cell, the block ADC, clear values and Restore, and the block's DDS (R203 to R229).
-/
namespace Sys2Proof.Machine

/-! ### Where the PMU reaches the ball (R203, R208, R216) -/

/-- The PMU is there for the load role: DigitalLoad, or the same through the Joker path (R203, R208). -/
def Cell.loadRole (x : Cell) : Bool :=
  match x.path.state with
  | .digitalLoad => true
  | .joker | .bridge => decide (x.path.request = .digital ∧ x.termMode = 2)
  | _ => false
/-- The PMU serves the ball in the parametric role. -/
def Cell.paramRole (x : Cell) : Bool :=
  match x.path.state with
  | .parametric => true
  | .joker | .bridge => decide (x.path.request = .parametric)
  | _ => false
/-- The active load is enabled: it is from each driver-off edge to the next driver-on edge, and not while a trip is in force (R102,
R126). -/
def Cell.loadOn (x : Cell) : Bool := x.loadRole && decide (x.path.driver = .off) && !x.tripped
/-- The PMU forces at the ball (R203, R207). -/
def Cell.pmuForces (x : Cell) : Bool :=
  x.loadOn || (x.paramRole && (decide (x.pmu.mode = .forceVoltage) || decide (x.pmu.mode = .forceCurrent)))
/-- A sense path reaches the ball for what the cell measures (R216). -/
def Cell.senses (x : Cell) : Bool := x.paramRole || (x.loadRole && !x.pmu.current)
/-- A transition of the path is under way. -/
def Cell.moving (x : Cell) : Bool := decide (x.path.state = .bridge) || decide (x.path.state = .switching)

/-! ### PmuConfig (R209 to R212) -/

/-- Options as a word (R209). -/
def PmuConfig.options (p : PmuConfig) : Nat := b2n p.kelvin + b2n p.clampAlarm * 2

/-- A mode code. -/
def pmuMode (v : Nat) : PmuMode := match v with | 0 => .off | 1 => .forceVoltage | 2 => .forceCurrent | _ => .measureOnly

/-- PmuConfig after a write of a subindex (R209). -/
def PmuConfig.put (p : PmuConfig) (sub v : Nat) : PmuConfig :=
  match sub with
  | 1 => { p with mode := pmuMode v }
  | 2 => { p with forceVoltage := signed 32 v }
  | 3 => { p with forceCurrent := signed 64 v }
  | 4 => { p with range := v }
  | 5 => { p with clampIHigh := signed 16 v }
  | 6 => { p with clampILow := signed 16 v }
  | 7 => { p with clampVHigh := signed 32 v }
  | 8 => { p with clampVLow := signed 32 v }
  | 9 => { p with loadSource := v }
  | 0xA => { p with loadSink := v }
  | 0xB => { p with kelvin := bitAt v 0, clampAlarm := bitAt v 1 }
  | 0xC => { p with current := decide (v = 1) }
  | 0xD => { p with samples := v }
  | 0xE => { p with settle := v }
  | _ => { p with waggle := decide (v = 1) }

/-- The size of a subindex of PmuConfig (R209). -/
def pmuLen (sub : Nat) : Nat :=
  match sub with
  | 3 => 8
  | 2 | 7 | 8 | 0xB | 0xD | 0xE => 4
  | 5 | 6 | 9 | 0xA => 2
  | _ => 1

/-- The value itself (R209). -/
def pmuValue (sub v : Nat) (p : PmuConfig) : Check :=
  match sub with
  | 1 => codeCheck v 4
  | 4 => codeCheck v 5
  | 0xC | 0xF => codeCheck v 2
  | 2 => inRange p.forceVoltage (-2000000) 7000000
  | 3 => inRange p.forceCurrent (-(fullScale p.range)) (fullScale p.range)
  | 5 => inRange p.clampIHigh (-1000) 1000
  | 6 => inRange p.clampILow (-1000) 1000
  | 7 => inRange p.clampVHigh (-2000000) 7000000
  | 8 => inRange p.clampVLow (-2000000) 7000000
  | 9 => inRangeN p.loadSource 0 1000
  | 0xA => inRangeN p.loadSink 0 1000
  | 0xD => inRangeN p.samples 1 1048576
  | 0xE => inRangeN p.settle 0 1000000
  | _ => (false, 7, 1)

/-- The route puts the waveform outside the force range (R210). -/
def routeCheck (enable : Bool) (force : Int) (amplitude : Nat) : Check :=
  (enable && decide (force - amplitude < -2000000 ∨ 7000000 < force + amplitude), 7, 4)

/-- Combinations that a write of PmuConfig must keep (R210; log entry 45). -/
def PmuConfig.combos (p : PmuConfig) (r : DdsRoute) : List Check :=
  [(decide (p.clampIHigh < p.clampILow + 20), 7, 4), (decide (p.clampVHigh < p.clampVLow + 100000), 7, 4),
   (decide (fullScale p.range < p.forceCurrent.natAbs), 7, 4), routeCheck r.enable p.forceVoltage r.amplitude]

/-- What state says against any write of PmuConfig but AbortMeasure (R210). -/
def Device.pmuBusy (d : Device) (c : CellIx) : List Check :=
  [(decide (d.regions[cellRegion c].mode = .calibrate), 5, 1), (d.cells[c].pmuStatus.transitional, 5, 3)]

/-- The routine of the range bridge (the example of ch. 12) (log entry 45). -/
def bridgeRoutine : Nat := 0xA0

/-- An accepted write reaches the DACs unless a clear holds them; Options and Mode return regulation to KSnnn
(R207, R211, R225). -/
def Cell.storePmu (x : Cell) (sub : Nat) (p : PmuConfig) : Cell :=
  let y := { x with pmu := p }
  let y := if x.pmuStatus.clearHeld then y else y.toDacs
  let y := if sub = 1 ∨ sub = 0xB then { y with pmuStatus := { y.pmuStatus with forceNode := false } } else y
  y.blankWrite

/-- The active stage takes the range of PmuConfig at once (R211). -/
def Cell.rangeNow (x : Cell) : Cell :=
  let y := { x with pmuStatus := { x.pmuStatus with stageRange := x.pmu.range } }
  { y with dacs := { y.dacs with forceI := y.forceI } }

/-- The idle stage is set to the new range and preset to the present output: the value forced, and the clamps, in the new range
(R212). -/
def Cell.presetStage (x : Cell) : Cell :=
  let g : Stage := { range := x.pmu.range, force := x.dacs.force, forceI := x.dacs.forceI, clampVHigh := x.dacs.clampVHigh
                     clampVLow := x.dacs.clampVLow, clampIHigh := x.dacs.clampIHigh, clampILow := x.dacs.clampILow }
  let g := if x.pmuStatus.clearHeld then g else { g with forceI := currentCode x.pmu.range x.pmu.forceCurrent }
  { x with pmuStatus := { x.pmuStatus with idle := some g } }

/-- COMMIT of the range bridge: the idle stage is connected in parallel with the active one (R212). -/
def Cell.connectStage (x : Cell) : Cell :=
  { x with pmuStatus := { x.pmuStatus with idle := x.pmuStatus.idle.map fun g => { g with connected := true } } }

/-- A range change reaches the ball: Transitional is set and the range bridge is requested; in every other case the new range
acts at once (R211, R212). -/
def Device.changeRange (d : Device) (c : CellIx) (v : Nat) : Device :=
  let x := d.cells[c]
  if (x.loadRole || x.pmuForces) ∧ v ≠ x.pmuStatus.stageRange then
    (d.onCell c fun x => { x with pmuStatus := { x.pmuStatus with transitional := true } }).requestRoutine (regionCtx (cellRegion c))
      { routine := bridgeRoutine, args := [BitVec.ofNat 64 c.val, BitVec.ofNat 64 v, 0, 0], scope := .cell c, transitional := some c }
  else d.onCell c Cell.rangeNow

/-- A write of PmuConfig (R209 to R212; log entry 45). -/
def specPmu (c : CellIx) (sub v : Nat) (d : Device) : WSpec :=
  let x := d.cells[c]
  let p := x.pmu.put sub v
  let modes := decide (sub = 1) && decide (p.mode ≠ x.pmu.mode)
  { len := pmuLen sub
    access := [subCheck [1, 2, 3, 4, 5, 6, 7, 8, 9, 0xA, 0xB, 0xC, 0xD, 0xE, 0xF] sub]
    state := d.pmuBusy c ++ [(modes && (x.path.swPmu || x.paramRole || x.loadRole || x.moving), 5, 3),
                             (modes && decide (x.pmu.mode = .forceVoltage) && x.dds.enable, 5, 3)]
    value := pmuValue sub v p :: p.combos x.dds
    apply := fun d =>
      let d := (d.onCell c fun x => x.storePmu sub p).noQuiet c
      if sub = 4 then d.changeRange c v else d }

/-! ### Clear values (R220, R221) -/

/-- ClearValues from its 40 bytes (R221). -/
def ClearValues.ofNat (v : Nat) : ClearValues where
  vih := signed 32 (field v 0 32)
  vil := signed 32 (field v 32 32)
  vt := signed 32 (field v 64 32)
  voh := signed 32 (field v 96 32)
  vol := signed 32 (field v 128 32)
  force := signed 32 (field v 160 32)
  clampVHigh := signed 32 (field v 192 32)
  clampVLow := signed 32 (field v 224 32)
  clampI := field v 256 16

/-- The checks of R221. -/
def ClearValues.checks (k : ClearValues) : List Check :=
  [inRange k.vih (-1500000) 6000000, inRange k.vil (-1500000) 6000000, inRange k.vt (-1500000) 6000000,
   inRange k.voh (-1500000) 6000000, inRange k.vol (-1500000) 6000000, inRange k.force (-2000000) 7000000,
   inRange k.clampVHigh (-2000000) 7000000, inRange k.clampVLow (-2000000) 7000000, inRangeN k.clampI 10 1000,
   (decide (k.vih < k.vil), 7, 4), (decide (k.voh < k.vol), 7, 4), (decide (k.clampVHigh < k.clampVLow + 100000), 7, 4)]

/-- A write of ClearValues (R221): it waits for the next clear. -/
def specClear (c : CellIx) (v : Nat) (d : Device) : WSpec where
  len := 40
  state := d.pmuBusy c
  value := (ClearValues.ofNat v).checks
  apply := fun d => (d.onCell c fun x => ({ x with pmu := { x.pmu with clear := ClearValues.ofNat v } }).blankWrite).noQuiet c

/-! ### Measurement (R214 to R217) -/

/-- A trigger: it starts a measurement, or is ignored while one is under way (R215; log entry 45). -/
def Cell.trigger (x : Cell) (paused : Bool) : Cell :=
  match x.meas.state with
  | .queued | .settling | .converting => { x with meas := { x.meas with triggerIgnored := true } }
  | _ =>
    ({ x with meas := { x.meas with state := .queued, triggerIgnored := false, sum := 0, count := 0, least := 0, greatest := 0
                                    runRestarted := false, runJoker := false, runOver := false, runShort := false
                                    runClamp := false } }).dequeue paused

/-- A delivery to the block's measure input starts the cell (R215). -/
def Cell.waggleMeasure (x : Cell) (paused : Bool) : Cell := if x.pmu.waggle then x.trigger paused else x

/-- The conversions of a measurement are discarded, with what they showed, and it waits (R217). -/
def PmuMeasure.discard (m : PmuMeasure) : PmuMeasure :=
  { m with state := .queued, sum := 0, count := 0, least := 0, greatest := 0, runOver := false, runShort := false, runClamp := false
           runJoker := false }

/-- Shed stage S2 holds measurements (R217). -/
def Cell.shedMeasure (x : Cell) : Cell :=
  let x := { x with pmuStatus := { x.pmuStatus with measurePaused := true } }
  match x.meas.state with
  | .settling | .converting => { x with meas := x.meas.discard }
  | _ => x

/-- S2 is restored (R217). -/
def Cell.unshedMeasure (x : Cell) : Cell :=
  let x := { x with pmuStatus := { x.pmuStatus with measurePaused := false } }
  if x.meas.state = .queued then ({ x with meas := { x.meas with runRestarted := true } }).dequeue false else x

/-- One code as µV, or as pA in a range: (sum of n codes) / n, rounded half to even (R214, R215). -/
def reading (current : Bool) (range : Nat) (sum n : Nat) : Int :=
  if current then roundEven (((sum : Int) - 131072 * n) * (5 * fullScale range)) (524288 * n)
  else roundEven (((sum : Int) - 65536 * n) * 10000000) (262144 * n)

/-- The result is formed (R215, R218; log entry 45). -/
def PmuMeasure.finish (m : PmuMeasure) (p : PmuConfig) (range now : Nat) (disciplined : Bool) : PmuMeasure :=
  { m with state := .done, value := reading p.current range m.sum m.count, current := p.current, range, taken := m.count
           minimum := reading p.current range m.least 1, maximum := reading p.current range m.greatest 1
           time := now, sequence := m.sequence + 1, disciplined
           restarted := m.runRestarted, jokerMeasured := m.runJoker, overrange := m.runOver, shortDuring := m.runShort
           clampDuring := m.runClamp }

/-- One conversion of a cell (R215). -/
def Cell.convert (x : Cell) (code now : Nat) (disciplined : Bool) : Cell :=
  let m := x.meas
  let m := { m with sum := m.sum + code, count := m.count + 1, least := if m.count = 0 then code else min m.least code
                    greatest := if m.count = 0 then code else max m.greatest code
                    runJoker := m.runJoker || x.path.byJoker, runOver := m.runOver || decide (code = 0) || decide (262143 ≤ code)
                    runShort := m.runShort || x.pmuStatus.shortNow, runClamp := m.runClamp || x.pmuStatus.clampActive }
  { x with meas := if x.pmu.samples ≤ m.count then m.finish x.pmu x.pmuStatus.stageRange now disciplined else m }

/-- Positions of a block that want a conversion now (R212, R214). -/
def Device.converting (d : Device) (b : BlockIx) : List Nat :=
  (List.range 16).filter fun p =>
    let x := d.cells[blockCell b p]
    decide (x.meas.state = .converting) && !x.pmuStatus.transitional

/-- The first of some positions after the one served last, round-robin (R214). -/
def roundRobin (last : Nat) (ps : List Nat) : Option Nat := (ps.find? fun p => decide (last < p)).or ps.head?

/-- A calibration of the block takes conversions. -/
def Device.calibrating (d : Device) (b : BlockIx) : Bool :=
  decide (d.blocks[b].jokerCal.activity = .calibrating) ||
    (cellsOfBlock b).any fun c => decide (d.cells[c].cal.activity = .calibrating)

/-- Commands Measure, AbortMeasure, Restore and ClearFlags (R216, R218, R225; log entry 44). -/
def specPmuCmd (c : CellIx) (v : Nat) (d : Device) : WSpec :=
  let x := d.cells[c]
  let on := fun (f : Cell → Cell) (d : Device) => d.onCell c fun x => (f x).blankWrite
  match v with
  | 1 =>
    { len := 1
      state := d.pmuBusy c ++ [(x.pmu.waggle || decide (x.meas.state = .settling) || decide (x.meas.state = .converting) ||
                                decide (x.pmu.mode = .off) || !(x.senses || x.moving), 5, 3)]
      apply := fun d => on (fun x => x.trigger (2 ≤ d.shed.stage)) d }
  | 2 =>
    { len := 1, state := [(decide (d.regions[cellRegion c].mode = .calibrate), 5, 1)]
      apply := on fun x => { x with meas := { x.meas with state := .aborted } } }
  | 3 =>
    { len := 1, state := d.pmuBusy c ++ [(!d.modes.clrN || d.folded c, 5, 3)], apply := on Cell.restore }
  | 4 =>
    { len := 1, state := d.pmuBusy c ++ [(x.pmuStatus.shortNow || x.pmuStatus.kelvinNow, 5, 3)]
      apply := on fun x => { x with pmuStatus := { x.pmuStatus with shortCircuit := false, kelvinOpen := false } } }
  | _ => { len := 1, state := d.pmuBusy c, value := [codeCheck v 5], apply := on id }

/-! ### Live conditions of the output (R205 to R207) -/

/-- The limiter or saturation engages (R206). -/
def Device.shortOnset (d : Device) (c : CellIx) : Device :=
  if d.cells[c].pmuForces then
    (d.onCell c fun x => { x with pmuStatus := { x.pmuStatus with shortNow := true, shortCircuit := true } }).setCause (.cell c) 2 true
  else d
/-- The cause of a short goes (R206). -/
def Device.shortEnd (d : Device) (c : CellIx) : Device :=
  (d.onCell c fun x => { x with pmuStatus := { x.pmuStatus with shortNow := false } }).setCause (.cell c) 2 false
/-- The output becomes held by a clamp (R205, R209). -/
def Device.clampOnset (d : Device) (c : CellIx) : Device :=
  let x := d.cells[c]
  if x.pmuForces && !x.pmuStatus.clampActive then
    let d := d.onCell c fun x => { x with pmuStatus := { x.pmuStatus with clampActive := true } }
    if x.pmu.clampAlarm then d.raise (.cell c) 4 else d
  else d
/-- Force and sense differ by over 500 mV (R207). -/
def Device.kelvinOnset (d : Device) (c : CellIx) : Device :=
  let x := d.cells[c]
  if x.pmuForces && x.pmu.kelvin then
    (d.onCell c fun x => { x with pmuStatus := { x.pmuStatus with kelvinNow := true, kelvinOpen := true, forceNode := true } }).setCause
      (.cell c) 3 true
  else d
/-- The difference is gone (R207). -/
def Device.kelvinEnd (d : Device) (c : CellIx) : Device :=
  (d.onCell c fun x => { x with pmuStatus := { x.pmuStatus with kelvinNow := false } }).setCause (.cell c) 3 false

/-! ### CLR_N (R223) -/

/-- CLR_N falls: the clear reaches every enabled DAC of every cell and Joker, measurements are Aborted, the edge is logged and ClearInput raised
(R213, R217, R223). -/
def Device.clrFall (d : Device) : Device :=
  if !d.modes.clrN then d
  else
    let d := { d with modes := { d.modes with clrN := false } }
    let on := fun i => if i / 64 = 0 then d.regions[0].die ≠ .unpowered else d.regions[1].die ≠ .unpowered
    let d := d.onCells (fun i => decide (on i)) fun x => { x.applyClear with meas := x.meas.abort }
    let d := { d with blocks := vmap (fun i (x : Block) => if on (16 * i) then { x with jokerDacs := x.jokerClear.dacs } else x) d.blocks }
    let d := ((List.finRange 128).filter fun c => on c.val).foldl Device.lookAgain d
    (d.entryFor .chip 2).raise .chip 2

/-! ### The DDS (R226 to R229) -/

/-- The table index of a route (R226). -/
def DdsRoute.index (r : DdsRoute) (phase : BitVec 32) : Nat := (phase.toNat + 65536 * r.phase) % 2 ^ 32 / 2 ^ 20
/-- The nearest whole number of µV to amplitude x table / 32 767 (R226); halves do not occur. -/
def ddsTerm (amplitude i : Nat) : Int := roundEven (amplitude * sineEntry i) 32767

/-- The force-voltage DAC, in both stages of a range change, takes the code nearest to ForceVoltage and the term of the route, unless a
clear holds it (R212, R225, R226). -/
def Cell.forced (x : Cell) : Cell :=
  if x.pmuStatus.clearHeld then x
  else
    let v := forceCode (x.pmu.forceVoltage + x.dds.term)
    { x with dacs := { x.dacs with force := v }
             pmuStatus := { x.pmuStatus with idle := x.pmuStatus.idle.map fun g => { g with force := v } } }

/-- One route at an update: a new amplitude acts as the index passes from 4 095 to 0, and the force DAC takes the sum
(R226, R229). -/
def Cell.ddsUpdate (x : Cell) (running : Bool) (old new : BitVec 32) : Cell :=
  let r := x.dds
  let r := if running ∧ r.index new < r.index old then { r with applied := r.amplitude } else r
  let r := if r.enable ∧ !x.pmuStatus.clearHeld ∧ running then { r with term := ddsTerm r.applied (r.index new) } else r
  { x with dds := r }.forced

/-- The route's term is 0. -/
def Cell.ddsZero (x : Cell) : Cell := { x with dds := { x.dds with term := 0 } }.forced

/-- An update of the block's DDS: the phase advances in Running, and a state that was commanded comes into force
(R226, R229; log entry 46). -/
def Device.ddsUpdate (d : Device) (b : BlockIx) : Device :=
  let x := d.blocks[b]
  let st := x.ddsNext.getD x.ddsState
  let old := x.ddsPhase
  let new := if x.ddsState = .running ∧ st = .running then old + BitVec.ofNat 32 x.ddsFreq else old
  let d := d.onBlock b fun x => { x with ddsState := st, ddsNext := none, ddsPhase := new }
  match st with
  | .running => d.onCells (inBlock b) fun x => x.ddsUpdate true old new
  | .stopped => d.onCells (inBlock b) Cell.ddsZero
  | _ => d

/-- A trigger to an Armed DDS (R229; log entry 46). -/
def Block.ddsTrigger (x : Block) (source : Nat) : Block :=
  if x.ddsState = .armed ∧ x.ddsStart = source then { x with ddsNext := some .running } else x
/-- Shed stage S1 freezes a DDS that runs, is armed or is about to run; one that is Stopped has nothing to hold (R229; log entry 46). -/
def Block.shedDds (x : Block) : Block :=
  if x.ddsState = .running ∨ x.ddsState = .armed ∨ x.ddsNext = some .running then { x with ddsState := .frozen, ddsNext := none, ddsByShed := true } else x
/-- S1 is restored (R229). -/
def Block.unshedDds (x : Block) : Block :=
  if x.ddsByShed then { x with ddsNext := if x.ddsState = .frozen then some .running else x.ddsNext, ddsByShed := false } else x

/-- DdsConfig.Command (R229). -/
def specDdsCmd (b : BlockIx) (v : Nat) (d : Device) : WSpec :=
  let x := d.blocks[b]
  match v with
  | 1 =>
    { len := 1, state := [(decide (x.ddsState = .armed) || decide (x.ddsState = .running), 5, 3)]
      apply := fun d => d.onBlock b fun x =>
        if x.ddsStart = 0 then { x with ddsPhase := 0, ddsNext := some .running, ddsByShed := false }
        else { x with ddsPhase := 0, ddsState := .armed, ddsByShed := false } }
  | 2 => { len := 1, apply := fun d => d.onBlock b Block.stopDds }
  | 3 => { len := 1, apply := fun d => d.onBlock b fun x => { x with ddsState := .frozen, ddsNext := none, ddsByShed := false } }
  | 4 => { len := 1, apply := fun d => d.onBlock b fun x => { x with ddsNext := some .running, ddsByShed := false } }
  | _ => { len := 1, value := [codeCheck v 5], apply := id }

/-- FrequencyWord and StartSource (R227). -/
def specDds (b : BlockIx) (sub v : Nat) : WSpec :=
  if sub = 1 then { len := 4, value := [inRangeN v 0 171798691], apply := fun d => d.onBlock b fun x => { x with ddsFreq := v } }
  else { len := 1, value := [codeCheck v 3], apply := fun d => d.onBlock b fun x => { x with ddsStart := v } }

/-- DdsRoute (R228, R229). -/
def specRoute (c : CellIx) (sub v : Nat) (d : Device) : WSpec :=
  let x := d.cells[c]
  match sub with
  | 1 =>
    { len := 1, state := [(decide (v = 1) && decide (x.pmu.mode ≠ .forceVoltage), 5, 3)]
      value := [boolCheck v, routeCheck (v = 1) x.pmu.forceVoltage x.dds.amplitude]
      apply := fun d => d.onCell c fun x =>
        if v = 1 then { x with dds := { x.dds with enable := true } }
        else ({ x with dds := { x.dds with enable := false } }).ddsZero }
  | 2 =>
    { len := 4, value := [inRangeN v 0 4500000, routeCheck x.dds.enable x.pmu.forceVoltage v]
      apply := fun d =>
        let k := d.blocks[cellBlock c]
        let now := decide (k.ddsState ≠ .running) || decide (k.ddsFreq = 0)
        d.onCell c fun x => { x with dds := { x.dds with amplitude := v, applied := if now then v else x.dds.applied } } }
  | _ => { len := 2, apply := fun d => d.onCell c fun x => { x with dds := { x.dds with phase := v } } }

/-! ### The commands -/

/-- PMU_CONFIG_WRITE (R210). -/
def execPmuConfigWrite (h : Hdr) (c : CellIx) (sub : Nat) (w : Data) (s : State) : Host.Outcome State Fault Refusal :=
  onDev s fun d => d.writeReg h (cellTarget c 3 sub) w fun _ => specPmu c sub w.val
/-- MEASURE (R216). -/
def execMeasure (h : Hdr) (c : CellIx) (s : State) : Host.Outcome State Fault Refusal :=
  onDev s fun d => d.writeCmd h (cellTarget c 3 0x10) 1 fun _ => specPmuCmd c 1
/-- ABORT_MEASURE (R216). -/
def execAbortMeasure (h : Hdr) (c : CellIx) (s : State) : Host.Outcome State Fault Refusal :=
  onDev s fun d => d.writeCmd h (cellTarget c 3 0x10) 2 fun _ => specPmuCmd c 2
/-- RESTORE (R225). -/
def execRestore (h : Hdr) (c : CellIx) (s : State) : Host.Outcome State Fault Refusal :=
  onDev s fun d => d.writeCmd h (cellTarget c 3 0x10) 3 fun _ => specPmuCmd c 3
/-- CLEAR_FLAGS (R218). -/
def execClearFlags (h : Hdr) (c : CellIx) (s : State) : Host.Outcome State Fault Refusal :=
  onDev s fun d => d.writeCmd h (cellTarget c 3 0x10) 4 fun _ => specPmuCmd c 4
/-- SETTLE_EXPIRY (R215). -/
def execSettleExpiry (c : CellIx) (s : State) : Host.Outcome State Fault Refusal :=
  onDev s fun d => d.onCell c fun x => if x.meas.state = .settling then { x with meas := { x.meas with state := .converting } } else x
/-- PMU_SHORT (R206). -/
def execPmuShort (c : CellIx) (s : State) : Host.Outcome State Fault Refusal := onDev s fun d => d.shortOnset c
/-- PMU_SHORT_RELEASE (R206). -/
def execPmuShortRelease (c : CellIx) (s : State) : Host.Outcome State Fault Refusal := onDev s fun d => d.shortEnd c
/-- CLAMP_ACTIVE_ONSET (R205). -/
def execClampActiveOnset (c : CellIx) (s : State) : Host.Outcome State Fault Refusal := onDev s fun d => d.clampOnset c
/-- CLAMP_ACTIVE_END (R205). -/
def execClampActiveEnd (c : CellIx) (s : State) : Host.Outcome State Fault Refusal :=
  onDev s fun d => d.onCell c fun x => { x with pmuStatus := { x.pmuStatus with clampActive := false } }
/-- KELVIN_OPEN (R207). -/
def execKelvinOpen (c : CellIx) (s : State) : Host.Outcome State Fault Refusal := onDev s fun d => d.kelvinOnset c
/-- KELVIN_DIFFERENCE_CLEARED (R207). -/
def execKelvinDifferenceCleared (c : CellIx) (s : State) : Host.Outcome State Fault Refusal := onDev s fun d => d.kelvinEnd c
/-- CLEAR_VALUES_WRITE (R221). -/
def execClearValuesWrite (h : Hdr) (c : CellIx) (w : Data) (s : State) : Host.Outcome State Fault Refusal :=
  onDev s fun d => d.writeReg h (cellTarget c 3 0x11) w fun _ => specClear c w.val
/-- CLR_N_FALL (R223). -/
def execClrNFall (s : State) : Host.Outcome State Fault Refusal := onDev s Device.clrFall
/-- CLR_N_RISE (R223). -/
def execClrNRise (s : State) : Host.Outcome State Fault Refusal :=
  onDev s fun d => { d with modes := { d.modes with clrN := true } }

/-- The subindices of a block's objects (R200, R219, R227). -/
def blockTarget (b : BlockIx) (off sub : Nat) : Target := dieTarget (blockRegion b) (off + b.val % 4) sub

/-- DDS_START (R229). -/
def execDdsStart (h : Hdr) (b : BlockIx) (s : State) : Host.Outcome State Fault Refusal :=
  onDev s fun d => d.writeCmd h (blockTarget b 0x70 5) 1 fun _ => specDdsCmd b 1
/-- DDS_STOP (R229). -/
def execDdsStop (h : Hdr) (b : BlockIx) (s : State) : Host.Outcome State Fault Refusal :=
  onDev s fun d => d.writeCmd h (blockTarget b 0x70 5) 2 fun _ => specDdsCmd b 2
/-- DDS_FREEZE (R229). -/
def execDdsFreeze (h : Hdr) (b : BlockIx) (s : State) : Host.Outcome State Fault Refusal :=
  onDev s fun d => d.writeCmd h (blockTarget b 0x70 5) 3 fun _ => specDdsCmd b 3
/-- DDS_RESUME (R229). -/
def execDdsResume (h : Hdr) (b : BlockIx) (s : State) : Host.Outcome State Fault Refusal :=
  onDev s fun d => d.writeCmd h (blockTarget b 0x70 5) 4 fun _ => specDdsCmd b 4
/-- DDS_UPDATE (R226). -/
def execDdsUpdate (b : BlockIx) (s : State) : Host.Outcome State Fault Refusal := onDev s fun d => d.ddsUpdate b
/-- DDS_ROUTE_ENABLE_WRITE (R228). -/
def execDdsRouteEnableWrite (h : Hdr) (c : CellIx) (w : Data) (s : State) : Host.Outcome State Fault Refusal :=
  onDev s fun d => d.writeReg h (cellTarget c 0xC 1) w fun _ => specRoute c 1 w.val
/-- AMPLITUDE_WRITE (R229). -/
def execAmplitudeWrite (h : Hdr) (c : CellIx) (w : Data) (s : State) : Host.Outcome State Fault Refusal :=
  onDev s fun d => d.writeReg h (cellTarget c 0xC 2) w fun _ => specRoute c 2 w.val

end Sys2Proof.Machine
end

