-- ==== Sys2Proof/Machine/Power.lean ====
section
/-!
DEFINITION. Power of the pin dies, entry to the modes in which Sentinel trip paths run, the start of the staleness check, and
the wake from Standby (R232, R359, R372 to R376, R438, R439).
-/
namespace Sys2Proof.Machine

/-- The bits of a set of channel numbers. -/
def bitsOf (p : Nat → Bool) : Nat → Nat
  | 0 => 0
  | n + 1 => bitsOf p n + (if p n then 2 ^ n else 0)

/-- A region mode in which protection runs (R232). -/
def RMode.active (m : RMode) : Bool := decide (m = .ready) || decide (m = .run) || decide (m = .calibrate)

/-- BlockCal.BackgroundState (R194, R197, R199, R200). -/
def Device.bgState (d : Device) (b : BlockIx) : BgState :=
  let x := d.regions[blockRegion b]
  if d.blocks[b].refFault then .refFault
  else if !x.mode.active then .stopped
  else if d.shed.stage ≠ 0 ∨ !x.calPolicy.background then .paused
  else .running

/-- A cell whose pin die loses power: everything is lost, and a measurement under way reads Aborted (R217, R232, R359). -/
def Cell.down (x : Cell) : Cell :=
  { Cell.reset with meas := { Cell.reset.meas with state := if x.meas.inProgress then .aborted else .idle } }

/-- The pin die of a region loses power (R232, R359). -/
def Device.dieDown (d : Device) (r : RegionIx) : Device :=
  let d := d.onCells (inRegion r) Cell.down
  let d := { d with blocks := vmap (fun i x => if i / 4 = r.val then Block.reset else x) d.blocks }
  (d.onRegion r fun x => { x with rails := railDefaults, sentTiming := {} }).setCause (.region r) 12 false |>.onRegion r
    fun x => { x with die := .unpowered }

/-- The pin die has power: its objects hold their defaults, and ticks count from 0 (R241, R359). -/
def Device.dieUp (d : Device) (r : RegionIx) : Device :=
  d.onRegion r fun x => { x with die := .active, sentTiming := if x.die = .unpowered then {} else x.sentTiming }

/-- When a region left service: now, or earlier where it is in Off or Fold already (R444; log entry 71). -/
def Region.awaySince (x : Region) (now : Nat) : Nat := if x.mode = .off ∨ x.mode = .fold then x.stale.away else now

/-- The action of ModeRequest Off (R372): pins isolated, DDS stopped, measurements Aborted, DRAM in self-refresh, the pin die
without power, channels that refer to the region Suspended, a check abandoned (R217, R292, R443). -/
def Device.regionOff (d : Device) (r : RegionIx) : Device :=
  let d := (d.abandonCheck r).dramSleep r
  let d := (d.suspendFor r).dieDown r
  d.onRegion r fun x => { x with mode := .off, heldByStall := false, heldByShed := false, fullCal := false,
                                 stale := { x.stale with away := x.awaySince d.now } }

/-- Item 3 begins and items 1 and 2 of the staleness check are done (R439, R441; log entry 71). -/
def Device.startCheck (d : Device) (r : RegionIx) (t : StaleTrigger) : Device :=
  let x := d.regions[r]
  let differs := decide (x.dealer.epoch ≠ d.link.dealer.epoch)
  let hit := fun k => if h : k < 64 then decide (d.waggle.chans[k].state = .enabled) && d.refersTo ⟨k, h⟩ r else false
  let mask := bitsOf hit 64
  let now := d.now
  let rec' := d.link.dealer
  (d.suspendFor r).onRegion r fun x =>
    { x with dealer := rec', adm := { x.adm with result := .none }
             comb := if x.comb = .valid then .scrubbing else x.comb
             stale := { state := .running, trigger := t, findings := b2n differs + (if mask = 0 then 0 else 2 ^ 5)
                        startTime := now, awayTime := now - x.stale.away, suspended := BitVec.ofNat 64 mask
                        oldEpoch := x.dealer.epoch, away := x.stale.away } }

/-- A region leaves Off for Configure (R372). -/
def Device.leaveOff (d : Device) (r : RegionIx) : Device :=
  (((d.dieUp r).onRegion r fun x => { x with mode := .configure }).dramWake r false).startCheck r .leaveOff

/-- A region leaves Fold for Configure (R372, R401). -/
def Device.leaveFoldMode (d : Device) (r : RegionIx) : Device :=
  ((d.onRegion r fun x => { x with mode := .configure, heldByStall := false }).dramWake r false).startCheck r .leaveFold

/-- A region returns from Standby to what it recorded (R374, R438). -/
def Device.returnRegion (d : Device) (r : RegionIx) : Device :=
  match d.regions[r].recorded with
  | .off => d
  | .fold => d.onRegion r fun x => { x with mode := .fold, die := .active }
  | _ => ((d.onRegion r fun x => { x with mode := .configure, die := .active }).dramWake r false).startCheck r .standbyWake

/-- The Thenko ports run 1000BASE-KX in Standby and Dormant, which has no FEC (R317, R332); their transfers have ended (R328). -/
def Device.portsTo (d : Device) (speed : Nat) : Device :=
  let d := (List.finRange 16).foldl Device.endTransfer d
  { d with link := { d.link with ports := vmap (fun _ p => if p.link = 0 then p else { p with link := speed, fec := 0 }) d.link.ports } }

/-- The power state in which a wake request finds the part: the DeviceMode, under which Factory hides Standby and Dormant that S4 and
S5 bring (R374, R375, R386). -/
def Device.powerState (d : Device) : DevMode :=
  if d.modes.mode ≠ .factory then d.modes.mode
  else if !d.modes.coreDie then .dormant
  else if !d.modes.clocks then .standby
  else .factory

/-- A wake request in Standby (R374, R376): clocks start, the ports negotiate anew, the regions return. The timers of sessions, which
start again then (R332), are those of the commands that stand for their end (log entry 2). -/
def Device.wakeStandby (d : Device) (cause : WakeCause) : Device :=
  if d.powerState ≠ .standby then d
  else
    let d := d.portsTo 0
    let d := { d with modes := { d.modes with clocks := true, wakeCause := cause } }
    ((d.returnRegion 0).returnRegion 1).refreshMode

end Sys2Proof.Machine
end

