-- ==== Sys2Proof/Machine/Sentinels.lean ====
section
/-!
DEFINITION. Sentinel window monitors of cells and rails (R230 to R246).
-/
namespace Sys2Proof.Machine

/-! ### Access -/

/-- The region of a Sentinel. -/
def monRegion : MonId → RegionIx
  | .cell c => cellRegion c
  | .rail r _ => r
/-- A Sentinel by its name. -/
def Device.mon (d : Device) : MonId → Sentinel
  | .cell c => d.cells[c].sentinel
  | .rail r k => d.regions[r].rails[k]
/-- One Sentinel changes. -/
def Device.onMon (d : Device) (m : MonId) (f : Sentinel → Sentinel) : Device :=
  match m with
  | .cell c => d.onCell c fun x => { x with sentinel := f x.sentinel }
  | .rail r k => d.onRegion r fun x => { x with rails := x.rails.set k (f x.rails[k]) }

/-! ### Thresholds (R230, R239) -/

/-- The voltage of code 0, µV. -/
def monBase : MonId → Int
  | .cell _ => -2500000
  | .rail _ k => if k = 1 then -5115000 else 0
/-- The voltage from code 0 to code 1 023, µV. -/
def monSpan : MonId → Int
  | .cell _ => 10000000
  | .rail _ k => if k = 0 then 10230000 else if k = 3 then 1023000 else 5115000
/-- The step that the check of R243 adds, µV (R245). -/
def monStep : MonId → Int
  | .cell _ => 10000
  | .rail _ k => if k = 0 then 10000 else if k = 3 then 1000 else 5000

/-- The code nearest to a threshold (R230). -/
def monCode (m : MonId) (v : Int) : Int := (2 * (v - monBase m) * 1023 + monSpan m) / (2 * monSpan m)

/-- One threshold comparator: undecided within the band when it has no previous output (R231; log entry 47). -/
def monCompare (m : MonId) (prev : Option Bool) (uv thr half : Int) : Option Bool :=
  let x := (uv - monBase m) * 1023
  let t := monCode m thr * monSpan m
  if t + half * 1023 < x then some true else if x < t - half * 1023 then some false else prev

/-- Both comparators see a voltage (log entry 47). -/
def Sentinel.see (s : Sentinel) (m : MonId) (uv : Int) : Sentinel :=
  let half := 500 * s.cfg.hyst
  { s with input := uv, aboveLow := monCompare m s.aboveLow uv s.cfg.low half, aboveHigh := monCompare m s.aboveHigh uv s.cfg.high half }

/-- A protection path that powers on under Class Protection has no previous output, and decides by its input (R231). -/
def Sentinel.pathOn (s : Sentinel) (m : MonId) : Sentinel :=
  ({ s with aboveLow := none, aboveHigh := none }).see m s.input

/-- The raw class (R231). -/
def Sentinel.raw (s : Sentinel) : Raw :=
  match s.aboveLow, s.aboveHigh with
  | some lo, some hi => if !lo then .below else if hi then .above else .inside
  | _, _ => .unsettled

/-- The alarm condition of a class: none while Unsettled (R231). -/
def Sentinel.alarmOf (s : Sentinel) (r : Raw) : Option Bool :=
  match r with
  | .unsettled => none
  | .inside => some s.cfg.sense
  | _ => some (!s.cfg.sense)
/-- The alarm condition at the comparators. -/
def Sentinel.alarm (s : Sentinel) : Option Bool := s.alarmOf s.raw

/-- Class Protection or Both. -/
def Sentinel.protects (s : Sentinel) : Bool := decide (s.cfg.cls = .protection) || decide (s.cfg.cls = .both)
/-- Class Monitor or Both. -/
def Sentinel.monitors (s : Sentinel) : Bool := decide (s.cfg.cls = .monitor) || decide (s.cfg.cls = .both)
/-- The trip path is active and the comparators run continuously (R232). -/
def Device.tripPath (d : Device) (m : MonId) : Bool := (d.mon m).protects && d.regions[monRegion m].mode.active
/-- The raw class that counts now: live while continuous, else that of the last sample (R237, R244). -/
def Device.monRaw (d : Device) (m : MonId) : Raw := if d.tripPath m then (d.mon m).raw else (d.mon m).sampled
/-- The alarm condition that a release is judged on (R237). -/
def Device.monAlarm (d : Device) (m : MonId) : Option Bool := (d.mon m).alarmOf (d.monRaw m)
/-- The die of a Sentinel has power (log entry 47). -/
def Device.monOn (d : Device) (m : MonId) : Bool := !d.dieOff (monRegion m)

/-! ### Sampling (R233 to R235) -/

/-- A tick powers the comparators of a sampled Sentinel, which see what lies at the input; a sample is due (R233). -/
def Sentinel.tick (s : Sentinel) (m : MonId) : Sentinel := if s.monitors then { (s.see m s.input) with powered := true } else s

/-- N and M of a filter (R234). -/
def filterOf (f : Nat) : Nat × Nat := match f with | 1 => (5, 3) | 2 => (9, 5) | _ => (1, 1)

/-- A sample goes through the filter (R234). -/
def Sentinel.sample (s : Sentinel) : Sentinel :=
  let s := { s with powered := false, sampled := s.raw }
  if s.cfg.filter = 3 ∧ s.blanking then s
  else
    let (n, m) := filterOf s.cfg.filter
    let hist := (s.alarm :: s.history).take n
    let out := if m ≤ hist.count (some true) then MonOut.alarm else if m ≤ hist.count (some false) then .clear else s.output
    { s with history := hist, output := out }

/-- Log entry number, instance and Notify of an onset (0) or an end (1) (R331, R412). -/
def Device.monNote (d : Device) (m : MonId) (which data : Nat) (logs notes : Bool) : Device :=
  let (inst, num) := match m with
    | .cell c => (c.val, 6 + which)
    | .rail r k => (4 * r.val + k.val, 0xC + which)
  let d := if logs then d.addNote inst num data else d
  if notes then d.notify 2 0 (noteCode inst num) data 0 else d

/-- An onset: recorded, notified, fired, logged, and a wake request as enabled (R235). Rails have no Waggle source. -/
def Device.onset (d : Device) (m : MonId) : Device :=
  let now := d.now
  let disc := d.disciplined
  let d := d.onMon m fun s => { s with onsetTime := now, onsetDisciplined := disc, onsets := satAdd (maxU 32) s.onsets 1 }
  let s := d.mon m
  let d := d.monNote m 0 s.onsets s.cfg.logs s.cfg.notifyOnset
  let d := match m with
    | .cell c => if s.cfg.waggle then d.sourceEvent (0x20 + (cellBlock c).val) (regionDomain (cellRegion c)) else d
    | .rail _ _ => d
  if s.cfg.wake ∧ d.shed.stage < 4 then d.wakeStandby .sentinel else d

/-- An end (R235). -/
def Device.monEnd (d : Device) (m : MonId) : Device :=
  let now := d.now
  let disc := d.disciplined
  let d := d.onMon m fun s => { s with endTime := now, endDisciplined := disc }
  let s := d.mon m
  d.monNote m 1 0 s.cfg.logs s.cfg.notifyEnd

/-! ### Protection (R236, R237, R240) -/

/-- A rail trip of the die is in force. -/
def Region.railTripped (x : Region) : Bool := x.rails.toList.any (·.tripped)

/-- A Sentinel trips: drivers off, recorded, logged, and its source raised (R236, R240). -/
def Device.trip (d : Device) (m : MonId) (cause : TripCause) : Device :=
  if (d.mon m).tripped then d
  else
    let d := d.onMon m fun s => { s with tripped := true, cause := cause, trips := satAdd (maxU 32) s.trips 1 }
    match m with
    | .cell c =>
      ((d.onCell c fun x => { x with path := { x.path with driver := .off } }).entryFor (.cell c) 1).setCause (.cell c) 1 true
    | .rail r _ =>
      ((d.onCells (inRegion r) fun x => { x with railTrip := true, path := { x.path with driver := .off } }).entryFor
        (.region r) 12).setCause (.region r) 12 true

/-- A trip is released; drivers are freed once no trip holds them (R237, R240). -/
def Device.release (d : Device) (m : MonId) : Device :=
  let d := d.onMon m fun s => { s with tripped := false }
  let running := d.regions[monRegion m].run.inProgress
  match m with
  | .cell c => (d.onCell c fun x => x.freed running).setCause (.cell c) 1 false
  | .rail r _ =>
    if d.regions[r].railTripped then d
    else (d.onCells (inRegion r) fun x => ({ x with railTrip := false }).freed running).setCause (.region r) 12 false

/-- A trip by Unsettled is released, or becomes an Alarm trip, at the first instant the class is decided (R237). -/
def Device.settleTrip (d : Device) (m : MonId) : Device :=
  let s := d.mon m
  if s.tripped ∧ s.cause = .unsettled then
    match d.monAlarm m with
    | none => d
    | some true => d.onMon m fun s => { s with cause := .alarm }
    | some false => d.release m
  else d

/-- The comparators of a Sentinel have power: it runs continuously, or a tick has powered it (R232, R233). -/
def Device.monAwake (d : Device) (m : MonId) : Bool :=
  d.monOn m && (d.tripPath m || ((d.mon m).powered && (d.mon m).monitors))

/-- SENTINEL_CROSSING: comparators that have power see a voltage (R231, R237). -/
def Device.monCrossing (d : Device) (m : MonId) (uv : Int) : Device :=
  if d.monAwake m then (d.onMon m fun s => s.see m uv).settleTrip m else d.onMon m fun s => { s with input := uv }

/-- SENTINEL_SAMPLE: a sample that is due; a continuous Sentinel is sampled from its continuous comparators (R233, R234;
log entry 47). -/
def Device.monSample (d : Device) (m : MonId) (uv : Int) : Device :=
  let s := d.mon m
  if !s.powered || !s.monitors || !d.monOn m then d
  else
    let cont := d.tripPath m
    let s' := (if cont then s else s.see m uv).sample
    let d := (d.onMon m fun _ => s').settleTrip m
    if s.output ≠ .alarm ∧ s'.output = .alarm then d.onset m
    else if s.output = .alarm ∧ s'.output = .clear then d.monEnd m
    else d

/-- SENTINEL_TRIP: the condition has held for Deglitch, or the class is Unsettled (R236). -/
def Device.monTrip (d : Device) (m : MonId) : Device :=
  if !d.tripPath m || !d.monOn m then d
  else match (d.mon m).alarm with
    | none => d.trip m .unsettled
    | some true => d.trip m .alarm
    | some false => d

/-- RELEASE_TIME_EXPIRY: an Alarm trip under AutoRelease (R237). -/
def Device.autoRelease (d : Device) (m : MonId) : Device :=
  let s := d.mon m
  if s.tripped ∧ s.cause = .alarm ∧ s.cfg.autoRelease ∧ d.tripPath m ∧ s.alarm = some false then d.release m else d

/-- A region enters a mode; the protection paths of Class Protection that power on have no previous output, and decide by what lies at
their inputs (R231, R232, R237). -/
def Device.setMode (d : Device) (r : RegionIx) (m : RMode) : Device :=
  let on := m.active && !d.regions[r].mode.active
  let d := d.onRegion r fun x => { x with mode := m }
  if on then
    let mons := (cellsOf r).map MonId.cell ++ (List.finRange 4).map (MonId.rail r)
    (mons.filter fun k => decide ((d.mon k).cfg.cls = .protection)).foldl (fun d k => (d.onMon k fun s => s.pathOn k).settleTrip k) d
  else d

/-! ### Readback (R238) -/

/-- The thresholds a block ADC reads, in order: the Sentinel and whether it is High. -/
def Device.readbackList (d : Device) (b : BlockIx) : List (Nat × MonId × Bool) :=
  let r := blockRegion b
  let cells := (List.range 16).map fun p => (p, MonId.cell (blockCell b p))
  let rails := if b.val % 4 = 0 then (List.finRange 4).map fun k => (16 + k.val, MonId.rail r k) else []
  ((cells ++ rails).filter fun x => decide ((d.mon x.2).cfg.cls ≠ .off)).flatMap fun x => [(2 * x.1, x.2, false), (2 * x.1 + 1, x.2, true)]

/-- A readback reading, µV: the ADC's voltage scale for a cell (R214), the rail's span over its codes for a rail (log entry
11). -/
def readbackUv (m : MonId) (code : Nat) : Int :=
  match m with
  | .cell _ => reading false 0 code 1
  | .rail _ _ => monBase m + roundEven (code * monSpan m) 262144

/-- Any ReadbackFault among what the block ADC reads (R394). -/
def Device.anyReadback (d : Device) (b : BlockIx) : Bool :=
  (cellsOfBlock b).any (fun c => d.cells[c].sentinel.faultLow || d.cells[c].sentinel.faultHigh) ||
    (decide (b.val % 4 = 0) && d.regions[blockRegion b].rails.toList.any fun s => s.faultLow || s.faultHigh)

/-- One threshold is read back (R238). -/
def Device.readbackNow (d : Device) (b : BlockIx) (code : Nat) : Device :=
    let d := d.onBlock b fun x => { x with readbackDue := false }
    let l := d.readbackList b
    match (l.find? fun x => decide (d.blocks[b].readbackNext ≤ x.1)).or l.head? with
    | none => d
    | some (i, m, high) =>
      let v := readbackUv m (code % 262144)
      let s := d.mon m
      let off := decide (3 * monSpan m < (v - (if high then s.cfg.high else s.cfg.low)).natAbs * 1023)
      let d := d.onBlock b fun x => { x with readbackConversions := x.readbackConversions + 1, readbackNext := i + 1 }
      let d := d.onMon m fun s => if high then { s with readbackHigh := v, faultHigh := off } else { s with readbackLow := v, faultLow := off }
      let d := d.setCause (.block b) 3 (d.anyReadback b)
      if off ∧ s.protects then d.trip m .readbackFault else d

/-- The block ADC has power and a clock. -/
def Device.adcRuns (d : Device) (b : BlockIx) : Bool := d.modes.clocks && !d.dieOff (blockRegion b)

/-- SENTINEL_READBACK: a readback conversion is due; it takes the slot at once unless a PMU measurement is Converting, behind which it
waits (R214, R238). -/
def Device.readback (d : Device) (b : BlockIx) (code : Nat) : Device :=
  if !d.adcRuns b || (d.readbackList b).isEmpty then d
  else if (d.converting b).isEmpty then d.readbackNow b code
  else d.onBlock b fun x => { x with readbackDue := true }

/-- A conversion slot of the block ADC: a PMU measurement, else a readback that is due, else calibration (R214, R219; log entry 45). -/
def Device.adcSlot (d : Device) (b : BlockIx) (code : Nat) : Device :=
  let now := d.now
  let disc := d.disciplined
  match roundRobin d.blocks[b].lastServed (d.converting b) with
  | some p =>
    let c := blockCell b p
    let d := d.onCell c fun x => x.convert (code % 262144) now disc
    let d := d.onBlock b fun x => { x with pmuConversions := x.pmuConversions + 1, lastServed := p }
    if d.cells[c].meas.state = .done then d.sourceEvent (0x18 + b.val) (regionDomain (blockRegion b)) else d
  | none =>
    if d.blocks[b].readbackDue && d.adcRuns b then d.readbackNow b (code % 262144)
    else if d.calibrating b then d.onBlock b fun x => { x with calConversions := x.calConversions + 1 } else d

/-! ### SentinelConfig (R242, R243, R245) -/

/-- Options as a word (R242). -/
def SentConfig.options (c : SentConfig) : Nat :=
  b2n c.sense + b2n c.notifyOnset * 2 + b2n c.notifyEnd * 4 + b2n c.waggle * 8 + b2n c.wake * 16 + b2n c.logs * 32 +
    c.deglitch * 64 + b2n c.autoRelease * 256

/-- A class code. -/
def sentClass (v : Nat) : SentClass := match v with | 0 => .off | 1 => .monitor | 2 => .protection | _ => .both

/-- SentinelConfig after a write of a subindex (R242). -/
def SentConfig.put (c : SentConfig) (sub v : Nat) : SentConfig :=
  match sub with
  | 1 => { c with cls := sentClass v }
  | 2 => { c with low := signed 32 v }
  | 3 => { c with high := signed 32 v }
  | 4 => { c with hyst := v }
  | 5 => { c with filter := v }
  | 6 => { c with blankTrigger := v }
  | 7 => { c with blankTime := v }
  | 8 => { c with sense := bitAt v 0, notifyOnset := bitAt v 1, notifyEnd := bitAt v 2, waggle := bitAt v 3, wake := bitAt v 4
                  logs := bitAt v 5, deglitch := field v 6 2, autoRelease := bitAt v 8 }
  | _ => { c with releaseTime := v }

/-- The value itself (R242, R245). -/
def sentValue (m : MonId) (sub v : Nat) (c : SentConfig) : Check :=
  let lo := monBase m
  let hi := monBase m + monSpan m
  match sub with
  | 1 => codeCheck v 4
  | 2 => inRange c.low lo hi
  | 3 => inRange c.high lo hi
  | 4 => inRangeN v 10 100
  | 5 => codeCheck v 4
  | 6 => match m with
    | .cell _ => codeCheck v 3
    | .rail _ _ => if v = 2 then (true, 7, 1) else codeCheck v 3
  | 7 => inRangeN v 1 65535
  | 8 => (false, 7, 1)
  | _ => inRangeN v 1 1000000

/-- The monitor output of a class with an empty history (R234, R244). -/
def Sentinel.clearFilter (s : Sentinel) : Sentinel :=
  { s with history := [], output := if s.monitors then .unsettled else .off, powered := s.powered && s.monitors }

/-- A write of SentinelConfig at a Sentinel: the filter is reset but for BlankTime and ReleaseTime; Class from Off, and a
protection path that powers on, leave the comparators without a previous output; continuous comparators look at their input again
(R231, R234, R243). -/
def Sentinel.store (s : Sentinel) (m : MonId) (sub : Nat) (c : SentConfig) (active : Bool) : Sentinel :=
  let was := s.protects
  let old := s.cfg
  let s := { s with cfg := c }
  let fresh := decide (sub = 1) && (decide (old.cls = .off ∧ c.cls ≠ .off) || (active && decide (c.cls = .protection) && !was))
  let s := if fresh then { s with aboveLow := none, aboveHigh := none } else s
  let s := if sub ≤ 6 ∨ sub = 8 then s.clearFilter else s
  if (active && s.protects) || s.powered then s.see m s.input else s

/-- The target of a subindex of a Sentinel's configuration (R242, R245). -/
def monTarget (m : MonId) (sub : Nat) : Target :=
  match m with
  | .cell c => cellTarget c 8 sub
  | .rail r k => dieTarget r (0x80 + k.val) sub

/-- A write of SentinelConfig (R242 to R245): accepted in every region mode. -/
def specSentinel (m : MonId) (sub v : Nat) (d : Device) : WSpec :=
  let c := (d.mon m).cfg.put sub v
  { len := match sub with | 2 | 3 | 7 | 8 | 9 => 4 | _ => 1
    access := [subCheck [1, 2, 3, 4, 5, 6, 7, 8, 9] sub]
    value := [sentValue m sub v c, (decide (c.high - c.low < 1000 * c.hyst + monStep m), 7, 4)]
    apply := fun d => (d.onMon m fun s => s.store m sub c d.regions[monRegion m].mode.active).settleTrip m }

/-- SentinelConfig.Command (R237, R242). -/
def specSentinelCmd (m : MonId) (v : Nat) (d : Device) : WSpec :=
  let s := d.mon m
  match v with
  | 1 =>
    { len := 1
      state := [(decide (d.monAlarm m ≠ some false) || (decide (s.cause = .readbackFault) && (s.faultLow || s.faultHigh)), 5, 3)]
      apply := fun d => if (d.mon m).tripped then d.release m else d }
  | 2 => { len := 1, apply := fun d => d.onMon m fun s => { s with onsets := 0, trips := 0 } }
  | _ => { len := 1, value := [codeCheck v 3], apply := id }

/-! ### Blanking triggers (R234) -/

/-- A delivery to a block's Sentinel blank input; the rails of a die follow its first block (log entry 11). -/
def Device.waggleBlank (d : Device) (b : BlockIx) : Device :=
  let d := d.onCells (inBlock b) fun x => x.blankTrigger 0
  if b.val % 4 = 0 then d.onRegion (blockRegion b) fun x => { x with rails := x.rails.map fun s => s.blank 0 } else d
/-- The start of cycle 0 of a run. -/
def Device.runBlank (d : Device) (r : RegionIx) : Device :=
  (d.onCells (inRegion r) fun x => x.blankTrigger 1).onRegion r fun x => { x with rails := x.rails.map fun s => s.blank 1 }

/-! ### The commands -/

/-- ADC_CONVERSION_SLOT (R214). -/
def execAdcConversionSlot (b : BlockIx) (code : Nat) (s : State) : Host.Outcome State Fault Refusal :=
  onDev s fun d => d.adcSlot b code
/-- SENTINEL_TICK (R233): while the pin die has power. -/
def execSentinelTick (r : RegionIx) (s : State) : Host.Outcome State Fault Refusal :=
  onDev s fun d =>
    if d.dieOff r then d
    else
      let mons := (cellsOf r).map MonId.cell ++ (List.finRange 4).map (MonId.rail r)
      (mons.foldl (fun d m => d.onMon m fun s => s.tick m) d).onRegion r fun x =>
        { x with sentTiming := { x.sentTiming with count := x.sentTiming.count + 1 } }
/-- SENTINEL_SAMPLE (R233). -/
def execSentinelSample (m : MonId) (uv : Int) (s : State) : Host.Outcome State Fault Refusal := onDev s fun d => d.monSample m uv
/-- BLANK_TIME_EXPIRY (R234). -/
def execBlankTimeExpiry (m : MonId) (s : State) : Host.Outcome State Fault Refusal :=
  onDev s fun d => d.onMon m fun s => { s with blanking := false }
/-- SENTINEL_CROSSING (R231). -/
def execSentinelCrossing (m : MonId) (uv : Int) (s : State) : Host.Outcome State Fault Refusal := onDev s fun d => d.monCrossing m uv
/-- SENTINEL_TRIP (R236). -/
def execSentinelTrip (m : MonId) (s : State) : Host.Outcome State Fault Refusal := onDev s fun d => d.monTrip m
/-- RELEASE_TIME_EXPIRY (R237). -/
def execReleaseTimeExpiry (m : MonId) (s : State) : Host.Outcome State Fault Refusal := onDev s fun d => d.autoRelease m
/-- RELEASE_TRIP (R237). -/
def execReleaseTrip (h : Hdr) (m : MonId) (s : State) : Host.Outcome State Fault Refusal :=
  onDev s fun d => d.writeCmd h (monTarget m 0xA) 1 fun _ => specSentinelCmd m 1
/-- SENTINEL_CLEAR_COUNTS (R242). -/
def execSentinelClearCounts (h : Hdr) (m : MonId) (s : State) : Host.Outcome State Fault Refusal :=
  onDev s fun d => d.writeCmd h (monTarget m 0xA) 2 fun _ => specSentinelCmd m 2
/-- SENTINEL_READBACK (R238). -/
def execSentinelReadback (b : BlockIx) (code : Nat) (s : State) : Host.Outcome State Fault Refusal := onDev s fun d => d.readback b code
/-- SENTINEL_CONFIG_WRITE (R243). -/
def execSentinelConfigWrite (h : Hdr) (m : MonId) (sub : Nat) (w : Data) (s : State) : Host.Outcome State Fault Refusal :=
  onDev s fun d => d.writeReg h (monTarget m sub) w fun _ => specSentinel m sub w.val

end Sys2Proof.Machine
end

