-- ==== Sys2Proof/Machine/Vectors.lean ====
section
/-!
DEFINITION. What a vector asks of a cell by its symbol and format, its events at the cell, and the quiet points of a pin (R37 to R45,
R52, R53, R187).
-/
namespace Sys2Proof.Machine

/-! ### What a symbol asks for (R37, R38, R40 to R45, R52) -/

/-- The symbol of a place in a region-vector (R35). -/
def symbolAt (v : BitVec 256) (p : Nat) : Nat := (v >>> (4 * p)).toNat % 16

/-- A reserved code for the entry's format (R45; log entry 39). -/
def CellEntry.reservedFor (e : CellEntry) (sym : Nat) : Bool := (e.singleBit || decide (e.fmt = 6)) && decide (12 ≤ sym)

/-- Drive edges of a data bit in a single-bit format: time and level (R52). -/
def CellEntry.bitEdges (e : CellEntry) (b : Bool) : List (Nat × EdgeAct) :=
  match e.fmt with
  | 0 => [(e.d0, .level b)]
  | 1 => if b then [(e.d0, .level true), (e.d1, .level false)] else [(e.d0, .level false)]
  | 2 => if b then [(e.d0, .level true)] else [(e.d0, .level false), (e.d1, .level true)]
  | _ => [(e.d0, .level !b), (e.d1, .level b), (e.d2, .level !b)]

/-- What a symbol makes of a cell: its drive edges, the drive data after it, and what its strobe events ask. -/
structure Action where
  edges : List (Nat × EdgeAct) := []
  drive : Bool
  asks : List Ask := []
  deriving DecidableEq, Repr

/-- A strobe event asks for a data bit (R42, R43). -/
def askBit (b : Bool) : Ask := if b then .high else .low

/-- A symbol of a single-bit format, with drive data `dd` and `n` strobe positions (R37, R38, R40, R45). -/
def CellEntry.single (e : CellEntry) (sym : Nat) (dd : Bool) (n : Nat) : Action :=
  let bit := fun (b : Bool) => ({ edges := e.bitEdges b, drive := b } : Action)
  let compare := fun (a : Ask) => ({ edges := [(e.d0, .off)], drive := dd, asks := List.replicate n a } : Action)
  match sym with
  | 0 => bit false
  | 1 => bit true
  | 2 => compare .low
  | 3 => compare .high
  | 5 => { edges := [(e.d0, .off)], drive := dd }
  | 6 => compare .mid
  | 7 => bit dd
  | 8 => bit !dd
  | 9 => compare .opposite
  | 10 => { edges := [(e.d0, .level true), (e.d1, .level false)], drive := false }
  | 11 => compare .lowOrHigh
  | _ => { drive := dd, asks := List.replicate n .masked }

/-- A symbol of DNRZ (R42). -/
def CellEntry.double (e : CellEntry) (sym : Nat) (dd : Bool) : Action :=
  match sym / 4 with
  | 0 => { edges := [(e.d0, .level (bitAt sym 1)), (e.d1, .level (bitAt sym 0))], drive := bitAt sym 0 }
  | 1 => { edges := [(e.d0, .off)], drive := dd, asks := [askBit (bitAt sym 1), askBit (bitAt sym 0)] }
  | 2 => { drive := dd, asks := [.masked, .masked] }
  | _ => { edges := [(e.d0, .off)], drive := dd }

/-- A symbol of QNRZ (R43). -/
def CellEntry.quad (e : CellEntry) (sym : Nat) (dd : Bool) : Action :=
  match e.qdir with
  | 0 => { edges := [(e.d0, .level (bitAt sym 3)), (e.d1, .level (bitAt sym 2)), (e.d2, .level (bitAt sym 1)),
                     (e.d3, .level (bitAt sym 0))], drive := bitAt sym 0 }
  | 1 => { edges := [(e.d0, .off)], drive := dd, asks := [3, 2, 1, 0].map fun i => askBit (bitAt sym i) }
  | 2 => { drive := dd, asks := List.replicate 4 .masked }
  | _ => { edges := [(e.d0, .off)], drive := dd }

/-- A symbol under a cell entry. -/
def CellEntry.action (e : CellEntry) (p sym : Nat) (dd : Bool) : Action :=
  if e.singleBit then e.single sym dd (e.strobePos p).length
  else if e.fmt = 4 then e.double sym dd
  else if e.fmt = 5 then e.quad sym dd
  else { drive := dd }

/-! ### The free-running clock at a vector (R44, R61) -/

/-- The parameters of the clock that the vectors placed so far leave running; none outside FRC. -/
def Frc.placed (f : Frc) : Option (Nat × Nat × Nat) :=
  f.ctl.foldl (fun acc q => match q.op with
    | .restart a b c => some (a, b, c)
    | .stop => none
    | _ => acc) (if f.running && !f.stopping then some (f.d0, f.d1, f.d2) else none)

/-- What a symbol asks of the clock. -/
def frcOp (sym : Nat) : FrcOp :=
  match sym with
  | 0 => .want .low
  | 1 => .want .high
  | 5 => .z
  | _ => .want .run

/-- The clock meets a vector that starts at `t`. -/
def Frc.meet (f : Frc) (e : CellEntry) (sym t : Nat) : Frc :=
  let ops : List FrcOp :=
    if e.fmt = 6 then
      (if f.placed = some (e.d0, e.d1, e.d2) then [frcOp sym] else [.restart e.d0 e.d1 e.d2, frcOp sym])
    else if f.placed.isSome then [.stop] else []
  { f with ctl := f.ctl ++ ops.map fun o => { at' := t, op := o } }

/-! ### A vector at a cell -/

/-- A programmed time of a vector, at the ball of the cell, moved by so much (R23, R24, R180). -/
def ballTime (start t : Nat) (shift : Int) : Nat := ((start + t : Nat) + shift).toNat

/-- How far Deskew and the drive-path offset of the unit that holds the pin move the drive edges of a cell, fu (R178, R181; log
entry 49). -/
def Cell.driveShift (x : Cell) (u : CalUnit) : Int := x.cal.deskew + u.drive.lag

/-- The strobe events of a vector at a cell (R40, R53, R118). -/
def Cell.strobesOf (x : Cell) (u : CalUnit) (e : CellEntry) (p : Nat) (v : VecRec) (asks : List Ask) : List Strobe :=
  ((e.strobePos p).zip asks).zipIdx.map fun ((pos, ask), i) =>
    { cycle := v.cycle, wraps := v.wraps, index := v.index, address := v.address, tset := v.tset, ordinal := i, ask, mode := e.cmode
      opens := ballTime v.start pos.1 (x.strobeShift u), closes := ballTime v.start pos.2 (x.strobeShift u), start := v.start
      shift := x.strobeShift u, maskAll := x.maskAll, bad := false }

/-- Symbol Z asks something of the clock that may be due at the vector's start, and not at an edge of the clock (R44). -/
def CellEntry.clockEdge (e : CellEntry) (sym : Nat) : List (Nat × EdgeAct) := if e.fmt = 6 ∧ sym = 5 then [(0, .clock)] else []

/-- A vector places its events at a cell that a unit serves; a hold vector places none (R41; log entry 39). -/
def Cell.place (x : Cell) (u : CalUnit) (e : CellEntry) (p : Nat) (v : VecRec) (sym : Nat) : Cell :=
  let a := e.action p sym x.driveData
  { x with driveData := a.drive
           edges := x.edges ++ (e.clockEdge sym ++ a.edges).map fun (t, act) =>
             { at' := ballTime v.start t (x.driveShift u), act, start := v.start }
           strobes := x.strobes ++ x.strobesOf u e p v a.asks
           frc := x.frc.meet e sym (ballTime v.start 0 (x.driveShift u)) }

/-! ### Quiet points (R187) -/

/-- Half the span of a quiet point, fu. -/
def quietSpan : Nat := 6554

/-- The next event of a cell's driver: the cell after it, its time, and the start of the vector it belongs to; an edge of the clock
belongs to none. -/
def Cell.driveStep (x : Cell) : Option (Cell × Nat × Option Nat) :=
  let x := { x with lastMove := none }
  let f := (x.frcDue x.frc.ctl).frc
  match x.edges with
  | e :: _ => if f.running && decide (f.next ≤ e.at') then some (x.frcEdge, f.next, none) else some (x.edge, e.at', some e.start)
  | [] => if f.running then some (x.frcEdge, f.next, none) else none

/-- The transitions that the driver of a cell will make: times, and the start of the vector each belongs to. All edges placed are gone
through, and the clock's up to a time; none where this takes too many steps. -/
def Cell.forecast : Nat → Cell → Nat → Option (List (Nat × Option Nat))
  | 0, _, _ => none
  | n + 1, x, upTo =>
    match x.driveStep with
    | none => some []
    | some (y, t, v) =>
      if v.isNone && x.edges.isEmpty && decide (upTo < t) then some []
      else (y.forecast n upTo).map fun l => if y.lastMove.isSome then (y.lastMove.getD t, v) :: l else l

/-- What a symbol is to a quiet point (R187). -/
inductive Repose where
  /-- X, or Z, or a place that the cell ignores. -/
  | still
  /-- A drive symbol: quiet where it leaves the driver as it is. -/
  | drives
  /-- A compare symbol. -/
  | compares
  deriving DecidableEq, Repr

/-- The same of a symbol under a cell entry. -/
def CellEntry.repose (e : CellEntry) (sym : Nat) : Repose :=
  let dir := fun (n : Nat) => match n with | 0 => Repose.drives | 1 => .compares | _ => .still
  match e.fmt with
  | 4 => dir (sym / 4)
  | 5 => dir e.qdir
  | 7 => .still
  | _ => if sym = 4 ∨ sym = 5 ∨ 12 ≤ sym then .still else if [0, 1, 7, 8, 10].contains sym then .drives else .compares

/-- The vector whose start is judged as a quiet point: the last one issued about whose span every vector is known (R187; log entry
49). -/
def Region.quietVector (x : Region) : Option VecRec :=
  match x.seq.nextStart with
  | none => x.vecs.getLast?
  | some t => (x.vecs.filter fun v => decide (v.start + quietSpan ≤ t)).getLast?

/-- A cell with every vector issued and not yet applied placed at it. -/
def Device.ahead (d : Device) (c : CellIx) : Cell :=
  let r := d.regions[cellRegion c]
  let p := cellBit c
  (r.vecs.filter fun v => !v.applied && !v.hold).foldl (fun x v =>
    let set := r.set' v.tset
    x.place (d.judge c) (set.entry p) set.period v (symbolAt v.symbols p)) d.cells[c]

/-- The start of the vector that is judged is a quiet point of a pin in Run (R187; log entry 49). -/
def Device.quietInRun (d : Device) (c : CellIx) : Bool :=
  let r := d.regions[cellRegion c]
  let y := d.ahead c
  match r.quietVector with
  | none => false
  | some m =>
    let e := (r.set' m.tset).entry (cellBit c)
    let low := m.start - quietSpan
    let high := m.start + quietSpan
    let near := fun (t : Option Nat) => t.any fun t => decide (low ≤ t)
    match y.forecast 8192 (max high (m.start + m.period)) with
    | none => false
    | some l =>
      let own := fun (t : Nat) (v : Option Nat) =>
        decide (v = some m.start) || (decide (e.fmt = 6) && v.isNone && decide (m.start ≤ t ∧ t < m.start + m.period))
      (m.hold || (match e.repose (symbolAt m.symbols (cellBit c)) with
        | .still => true
        | .drives => !l.any fun (t, v) => own t v
        | .compares => false)) &&
      !near d.cells[c].lastMove && !near d.cells[c].lastStrobe &&
      !l.any (fun (t, _) => decide (low ≤ t ∧ t ≤ high)) &&
      !y.strobes.any fun s => decide (s.ask ≠ .masked) && decide (low ≤ s.closes ∧ s.opens ≤ high)

/-- Now is a quiet point of a pin (R187, R213). -/
def Device.quiet (d : Device) (c : CellIx) : Bool :=
  let x := d.cells[c]
  !x.pmuStatus.transitional &&
    (if d.regions[cellRegion c].run.inProgress then d.quietInRun c else decide (x.quietFrom ≤ d.time))

end Sys2Proof.Machine
end

