-- ==== Sys2Proof/Machine/Calibrate.lean ====
section
/-!
DEFINITION. Calibration of cells and Jokers, the Joker swap, remaps and background calibration (R173 to R202), and the end of
path transitions (R121, R188).
-/
namespace Sys2Proof.Machine

/-! ### Units -/

/-- Unit 16 b + p of 128 + b (R201): the block of a unit, and its place 0 to 15, 16 for the Joker. -/
def unitBlock (u : Fin 136) : BlockIx := if h : u.val < 128 then ⟨u.val / 16, by omega⟩ else ⟨u.val - 128, by omega⟩
def unitPlace (u : Fin 136) : Nat := if u.val < 128 then u.val % 16 else 16

/-- The calibration of a place of a block. -/
def Device.cal (d : Device) (b : BlockIx) (p : Nat) : CalUnit := if p < 16 then d.cells[blockCell b p].cal else d.blocks[b].jokerCal
/-- The calibration of a place changes. -/
def Device.onCal (d : Device) (b : BlockIx) (p : Nat) (f : CalUnit → CalUnit) : Device :=
  if p < 16 then d.onCell (blockCell b p) fun x => { x with cal := f x.cal } else d.onBlock b fun x => { x with jokerCal := f x.jokerCal }
/-- Places of a block: its 16 cells, then the Joker. -/
def places : List Nat := List.range 17

/-- A unit of a block is Suspect (R394). -/
def Device.anySuspect (d : Device) (b : BlockIx) : Bool := places.any fun p => decide ((d.cal b p).state = .suspect)
/-- A unit of a block has TempExcursion (R394). -/
def Device.anyExcursion (d : Device) (b : BlockIx) : Bool := places.any fun p => (d.cal b p).tempExcursion

/-! ### Requests (R183, R184) -/

/-- A request of a unit is in the queue of its block. -/
def Device.calQueued (d : Device) (b : BlockIx) (p : Nat) : Bool := d.blocks[b].queue.any fun q => decide (q.unit = p)

/-- A request raised now would have an effect: none is pending, and a trigger does not ask again for the calibration that is under
way (R183; log entry 49). -/
def Device.mayRequest (d : Device) (b : BlockIx) (p : Nat) (byCommand : Bool) : Bool :=
  match (d.cal b p).activity with
  | .idle => true
  | .pending | .deferred => false
  | .awaitSwapBack => !d.calQueued b p
  | .preloading | .tracking | .calibrating => byCommand && !d.calQueued b p

/-- A request for a unit is raised (R183); one raised while the last is under way waits in the queue. -/
def Device.requestCal (d : Device) (b : BlockIx) (p : Nat) (byCommand : Bool) : Device :=
  if !d.mayRequest b p byCommand then d
  else
    (d.onCal b p fun u =>
      if u.activity = .idle then { u with activity := .pending, byCommand := byCommand, deferredOnce := false } else u).onBlock b
        fun x => { x with queue := x.queue ++ [{ unit := p, byCommand }] }

/-- A request that has not started is withdrawn (R201). -/
def Device.cancelCal (d : Device) (b : BlockIx) (p : Nat) : Device :=
  (d.onCal b p fun u =>
    match u.activity with
    | .pending | .deferred => { u with activity := .idle, noJoker := false, deferredOnce := false }
    | _ => u).onBlock b fun x => { x with queue := x.queue.filter fun q => q.unit ≠ p }

/-- The temperature trigger of a unit holds (R183). -/
def CalUnit.triggers (u : CalUnit) (k : CalPolicy) : Bool :=
  k.autoCellCal && decide (4 * k.deltaT < (u.temp - u.trigger).natAbs)

/-- How far a unit's temperature has moved. -/
def CalUnit.excursion (u : CalUnit) : Nat := (u.temp - u.trigger).natAbs

/-- A Joker is available for live substitution (R195). -/
def Device.jokerFree (d : Device) (b : BlockIx) : Bool :=
  let x := d.blocks[b]
  decide (x.role = .idle) && decide (x.remapPosition = 0xFF) && decide (x.jokerCal.state = .valid) && !d.covered (.block b)

/-- What becomes of a queued request now (R185). -/
inductive CalStart where
  /-- It waits without more. -/
  | waits
  /-- It lacks a Joker. -/
  | noJoker
  /-- It starts on the loopback. -/
  | direct
  /-- It starts by a Joker preload. -/
  | swap
  deriving DecidableEq, Repr

/-- What a request can do now (R184, R185, R195, R229). -/
def Device.calStart (d : Device) (b : BlockIx) (q : CalRequest) : CalStart :=
  let r := d.regions[blockRegion b]
  if q.unit < 16 then
    let x := d.cells[blockCell b q.unit]
    if x.path.remapped then
      (match x.path.state with
        | .isolated | .joker => if q.byCommand then .direct else .waits
        | _ => .waits)
    else match x.path.state with
      | .isolated => .direct
      | .digital | .digitalLoad | .parametric =>
        if x.dds.enable || (decide (r.mode = .run) && !r.calPolicy.swapInRun) then .waits
        else if d.jokerFree b then .swap else .noJoker
      | _ => .waits
  else match d.blocks[b].role with
    | .idle | .unavailable => .direct
    | _ => .waits

/-- The order of service (R184): an Idle Joker's own trigger, requests by command as they came, others by excursion and
position. -/
def Device.calOrder (d : Device) (b : BlockIx) : List CalRequest :=
  let x := d.blocks[b]
  let k := d.regions[blockRegion b].calPolicy
  let self := x.queue.filter fun q => q.unit = 16 && x.role = .idle && x.jokerCal.triggers k
  let rest := x.queue.filter fun q => !self.contains q
  let others := (rest.filter fun q => !q.byCommand).mergeSort fun a c =>
    let ea := (d.cal b a.unit).excursion
    let ec := (d.cal b c.unit).excursion
    decide (ec < ea) || (decide (ea = ec) && decide (a.unit ≤ c.unit))
  self ++ rest.filter (·.byCommand) ++ others

/-- A request that lacks a Joker is marked, and counted as deferred once (R185; log entry 12). -/
def CalUnit.lackJoker (u : CalUnit) : CalUnit :=
  { u with noJoker := true, deferrals := if u.deferredOnce then u.deferrals else u.deferrals + 1, deferredOnce := true }

/-- A request starts (R185, R186). -/
def Device.beginCal (d : Device) (b : BlockIx) (q : CalRequest) (swap : Bool) : Device :=
  let d := d.onCal b q.unit fun u =>
    { u with activity := if swap then .preloading else .calibrating, noJoker := false, passA := none, repeats := 0 }
  d.onBlock b fun x =>
    let x := { x with queue := x.queue.filter (fun o => o.unit ≠ q.unit), active := some q.unit }
    if swap then { x with role := .preloading, position := some q.unit, lastBall := q.unit }
    else if q.unit = 16 then { x with role := .selfCal } else x

/-- The queue is gone through in order: those that lack a Joker are marked on the way, the first that can starts. -/
def Device.serveCal (d : Device) (b : BlockIx) : List CalRequest → Device
  | [] => d
  | q :: rest =>
    match d.calStart b q with
    | .waits => d.serveCal b rest
    | .noJoker => (d.onCal b q.unit CalUnit.lackJoker).serveCal b rest
    | .direct => d.beginCal b q false
    | .swap => d.beginCal b q true

/-- CAL_REQUEST_START (R184). -/
def Device.startCal (d : Device) (b : BlockIx) : Device :=
  if d.blocks[b].active ≠ none ∨ d.shed.stage ≠ 0 ∨ !d.regions[blockRegion b].mode.active then d
  else d.serveCal b (d.calOrder b)

/-! ### The swap (R186, R188, R189) -/

/-- A quantity whose pending becomes that of another unit (R189). -/
def Walk.match' (w other : Walk) : Walk := { w with applied := w.target - other.pending }
/-- Every quantity of a unit takes over the pending of another (R189). -/
def CalUnit.takeOver (u other : CalUnit) : CalUnit :=
  { u with drive := u.drive.match' other.drive, compare := u.compare.match' other.compare
           trims := (u.trims.zip other.trims).map fun (a, b) => a.match' b }

/-- The PMU that takes a Parametric pin over is preset to the present values and connected in parallel (R188, R212). -/
def Cell.handOver (x : Cell) : Cell := if x.path.state = .parametric then x.presetStage.connectStage else x

/-- A Joker that loads has finished (R186). -/
def Device.preloaded (d : Device) (b : BlockIx) : Device :=
  match d.blocks[b].role, d.blocks[b].position with
  | .preloading, some p =>
    (d.onCal b p fun u => { u with activity := .tracking }).onBlock b fun x => { x with role := .tracking }
  | _, _ => d

/-- SWAP_IN: a Bridge begins at a quiet point; both drivers stand alike and the Joker takes over the pending
(R188, R189, R246). -/
def Device.swapIn (d : Device) (b : BlockIx) : Device :=
  match d.blocks[b].role, d.blocks[b].position with
  | .tracking, some p =>
    let c := blockCell b p
    let x := d.cells[c]
    let on := match x.path.state with | .digital | .digitalLoad | .parametric => true | _ => false
    if x.cal.activity ≠ .tracking ∨ !on ∨ x.dds.enable ∨ d.shed.stage ≠ 0 ∨ !d.quiet c then d
    else
      let d := d.onBlock b fun k => { k with jokerCal := k.jokerCal.takeOver x.cal }
      d.onCell c fun x =>
        let path : Path := { x.path with beforeSwap := x.path.state, state := .bridge, swJoker := true, substituted := true
                                         step := some .bridgeIn }
        { x.handOver with path }.closeIncoming.blankWrite
  | _, _ => d

/-- A request that may be served: the swap-back of the block is under way (R188). -/
def Device.swapBack (d : Device) (b : BlockIx) : Device :=
  match d.blocks[b].position with
  | some p =>
    let c := blockCell b p
    let x := d.cells[c]
    if x.cal.activity ≠ .awaitSwapBack ∨ x.path.state ≠ .joker ∨ !x.path.substituted ∨ !d.quiet c then d
    else
      let u := d.blocks[b].jokerCal
      d.onCell c fun x =>
        let path : Path := { x.path with state := .bridge, step := some .bridgeOut
                                         swDigital := decide (x.path.beforeSwap ≠ PathState.parametric)
                                         swPmu := decide (x.path.beforeSwap ≠ PathState.digital) }
        let x := if x.path.beforeSwap = .parametric then x.presetStage.connectStage else x
        { x with path, cal := x.cal.takeOver u }.closeIncoming.blankWrite
  | none => d

/-- The incoming unit's comparator and its PMU are the ones that count from the end of the Bridge on (R188, R212). -/
def Cell.bridged (x : Cell) : Cell :=
  { x with voh := x.voh2, vol := x.vol2, voh2 := none, vol2 := none, pmuStatus := { x.pmuStatus with idle := none } }

/-- A substitution is broken off: the swap-back is searched for and the request stays pending (R197). -/
def Device.swapBackEarly (d : Device) (b : BlockIx) (p : Nat) : Device :=
  let byCommand := (d.cal b p).byCommand
  (d.onCal b p fun u => { u with activity := .awaitSwapBack, passA := none, repeats := 0 }).onBlock b fun x =>
    { x with swapBack := true, queue := { unit := p, byCommand } :: x.queue }

/-- A swap-in ends: the Joker holds the pin and the cell calibrates on its loopback (R188). -/
def Device.bridgeInEnd (d : Device) (c : CellIx) : Device :=
  let d := d.onCell c fun x =>
    ({ x with path := { x.path with state := .joker, swDigital := false, swPmu := false, step := none }
              cal := { x.cal.leave with activity := .calibrating, passA := none, repeats := 0 } }).bridged.blankWrite
  let d := d.onBlock (cellBlock c) fun k => { k with role := .substituting, swaps := k.swaps + 1 }
  if d.shed.stage ≠ 0 then d.swapBackEarly (cellBlock c) (cellPos c) else d

/-- A swap-back ends: the cell holds the pin, the Joker is Idle with its targets applied (R181, R188, R190). -/
def Device.bridgeOutEnd (d : Device) (c : CellIx) : Device :=
  let running := d.regions[cellRegion c].mode = .run
  let again := d.calQueued (cellBlock c) (cellPos c)
  let d := (d.keepJoker (cellBlock c)).onCell c fun x =>
    let u := { x.cal with activity := if again then .pending else .idle, swapBackLate := false }
    ({ x with path := { x.path with state := x.path.beforeSwap, swJoker := false, step := none, substituted := false }
              cal := if running then u else u.settle }).bridged.blankWrite
  d.onBlock (cellBlock c) fun k => { k.freeJoker with active := none }

/-! ### A full calibration (R173, R198) -/

/-- A full calibration of a region starts: units off their balls at once, connected cells by request (R185, R198; log
entry 12). -/
def Device.startFull (d : Device) (r : RegionIx) : Device :=
  let begin' := fun (u : CalUnit) => { u with activity := .calibrating, noJoker := false, passA := none, repeats := 0 }
  let d := d.onCells (inRegion r) fun x =>
    if (x.path.state = .isolated ∨ (x.path.remapped ∧ x.path.state = .joker)) ∧ !x.cal.activity.working then
      { x with cal := begin' x.cal }
    else x
  let d := (blocksOf r).foldl (fun d b =>
    let direct := fun (q : CalRequest) => q.unit < 16 && d.cells[blockCell b q.unit].cal.activity = .calibrating
    let d := d.onBlock b fun x => { x with queue := x.queue.filter fun q => !direct q && q.unit ≠ 16 }
    let d := d.onBlock b fun x =>
      match x.role with
      | .idle | .unavailable => { x with role := .selfCal, jokerCal := begin' x.jokerCal }
      | .remapped =>
        if x.position.all fun q => d.cells[blockCell b q].path.state = .isolated then { x with jokerCal := begin' x.jokerCal }
        else x
      | _ => x
    (cellsOfBlock b).foldl (fun d c =>
      if d.cells[c].path.state ≠ .isolated ∧ !d.cells[c].path.remapped then d.requestCal b (cellPos c) false else d) d) d
  d.onRegion r fun x => { x with fullCal := true }

/-- No Joker will serve the cells of a block: it is remapped, Unavailable, or Idle without a valid calibration (R195, R196). -/
def Block.noJoker (x : Block) : Bool :=
  decide (x.remapPosition ≠ 0xFF) || decide (x.role = .unavailable) ||
    (decide (x.role = .idle) && decide (x.jokerCal.activity = .idle) && decide (x.jokerCal.state ≠ .valid))

/-- Units of a region that a full calibration still waits for; a cell that no Joker will serve is not waited for (log entry 12). -/
def Device.fullOpen (d : Device) (r : RegionIx) : Bool :=
  (blocksOf r).any fun b => places.any fun p =>
    let u := d.cal b p
    decide (u.activity ≠ .idle) && !(u.noJoker && decide (u.activity = .pending) && d.blocks[b].noJoker)

/-- A full calibration ends when no unit is open: a region in Calibrate returns to Ready (R372; log entry 12). -/
def Device.fullEnd (d : Device) (r : RegionIx) : Device :=
  if d.regions[r].fullCal && !d.fullOpen r then
    let d := d.onRegion r fun x => { x with fullCal := false }
    if d.regions[r].mode = .calibrate then (d.setMode r .ready).refreshMode else d
  else d

/-! ### Passes (R191, R192) -/

/-- Offset from the loopback to the ball of a place; a Joker's is added where its ball is known (R178; log entry 48). -/
def ballOffset (b : BlockIx) (p : Nat) : Int := if p < 16 then Config.ballPlane (b.val * 16 + p) else 0

/-- A new target; the applied value follows at once off the ball or outside Run (R181). -/
def Walk.retarget (w : Walk) (t : Int) (walks : Bool) : Walk :=
  { w with target := t, applied := if walks then w.applied else t }
/-- The same as an accepted value. -/
def Walk.accept (w : Walk) (t : Int) (walks : Bool) : Walk := { w.retarget t walks with accepted := t }

/-- What two passes that agree give a unit: the means of their values, and the selections of the averaged measurements; a selection
waits while the unit is on the ball, and trim targets stay while the block is in RefFault (R174, R179, R191). -/
def CalUnit.accept (u : CalUnit) (a m : Measure) (offset : Int) (walks onBall fault : Bool) (now : Nat) (disciplined : Bool) : CalUnit :=
  let (combo, _, sq) := bestCombo (addLists a.delays m.delays) 32
  let levels := addLists a.levels m.levels
  let elements := (List.range 10).map (comboDigit combo)
  let dacTaps := bestTaps (addLists a.tapErr m.tapErr) u.dacTaps
  { u with state := .valid, calCount := u.calCount + 1, lastTime := now, lastTemp := u.temp, trigger := u.temp, disciplined
           residual := roundSqrt (64 * sq) 1024, factoryDefaults := false
           drive := u.drive.accept (roundEven (a.drive + m.drive) 2 + offset) walks
           compare := u.compare.accept (roundEven (a.compare + m.compare) 2 + offset) walks
           trims := if fault then u.trims
             else (u.trims.zip (levelTrims 2 levels (levels.drop 10))).map fun (w, t) => w.accept t walks
           thresholdOffsets := (levels.drop 10).map fun s => roundEven s 2
           elements := if onBall then u.elements else elements
           dacTaps := if onBall then u.dacTaps else dacTaps
           chosen := if onBall then some (elements, dacTaps) else none
           taps := meanWidths (tapWidths a.hits) (tapWidths m.hits)
           passA := none, repeats := 0, tempExcursion := false }

/-- A unit without accepted values stands at its factory defaults (R192). -/
def CalUnit.toFactory (u : CalUnit) (n : Nat) : CalUnit :=
  let w := fun (t : Int) => { target := t, applied := t, accepted := t : Walk }
  { u with factoryDefaults := true, drive := w (Config.factoryDrive n), compare := w (Config.factoryCompare n)
           trims := (List.range 10).map fun i => w (Config.factoryTrim n i)
           elements := (List.range 10).map fun k => Config.factoryElement n k % 3
           dacTaps := (List.range 1285).map fun k => Config.factoryTap n k % 3
           taps := tapWidths (fitHits calHits (Config.factoryHits n)), chosen := none }

/-- The calibration is rejected (R191, R192). -/
def CalUnit.reject (u : CalUnit) (n : Nat) : CalUnit :=
  let u := { u with state := .suspect, rejections := u.rejections + 1, trigger := u.temp, passA := none, repeats := 0 }
  if u.calCount = 0 then u.toFactory n else u

/-- The unit's temperature lies more than 8 °C from that of its last acceptance (R180). -/
def CalUnit.recheck (u : CalUnit) : CalUnit := { u with tempExcursion := decide (128 < (u.temp - u.lastTemp).natAbs) }

/-- The number of a place in fuses: 16 b + p, and 128 + b for Jokers. -/
def unitNumber (b : BlockIx) (p : Nat) : Nat := if p < 16 then b.val * 16 + p else 128 + b.val

/-- New tap widths reach a capture that goes on (R172). -/
def Device.newTaps (d : Device) (b : BlockIx) (p : Nat) : Device :=
  let mark := fun (x : Cell) => if x.tmuResult.gating then { x with tmuResult := { x.tmuResult with binTableChanged := true } } else x
  if p < 16 then d.onCell (blockCell b p) mark
  else match d.blocks[b].position with
    | some q => d.onCell (blockCell b q) mark
    | none => d

/-- What a unit does after its activity: nothing, or it waits for the next request (R183). -/
def Device.restActivity (d : Device) (b : BlockIx) (p : Nat) : CalActivity := if d.calQueued b p then .pending else .idle

/-- What follows the last pass of a unit: the swap-back, or the end of its activity (R188, R190, R195). -/
def Device.calDone (d : Device) (b : BlockIx) (p : Nat) (rejected : Bool) : Device :=
  if p < 16 then
    let swapped := d.cells[blockCell b p].path.substituted
    let next := d.restActivity b p
    let d := d.onCal b p fun u => { u with activity := if swapped then .awaitSwapBack else next }
    if swapped then d.onBlock b fun x => { x with swapBack := true }
    else d.onBlock b fun x => if x.active = some p then { x with active := none } else x
  else
    let next := d.restActivity b 16
    (d.onCal b 16 fun u => { u with activity := next }).onBlock b fun x =>
      { x with role := if x.role = .selfCal then (if rejected then .unavailable else .idle) else x.role
               active := if x.active = some 16 then none else x.active }

/-- The pin that a place serves. -/
def Device.pinOf (d : Device) (b : BlockIx) (p : Nat) : Option CellIx :=
  if p < 16 then some (blockCell b p) else d.blocks[b].position.map (blockCell b)

/-- The unit of a place is on the ball (R174). -/
def Device.onBall (d : Device) (b : BlockIx) (p : Nat) : Bool :=
  (d.pinOf b p).any fun c =>
    let x := d.cells[c].path
    if p < 16 then x.swDigital || x.swPmu else x.swJoker

/-- The unit of a place drives or judges a pin in Run: its corrections walk (R106, R181). -/
def Device.walks (d : Device) (b : BlockIx) (p : Nat) : Bool :=
  decide (d.regions[blockRegion b].mode = .run) && (d.pinOf b p).any fun c =>
    let x := d.cells[c].path
    if p < 16 then
      (match x.state with
        | .digital | .digitalLoad => true
        | .bridge => decide (x.request = .digital)
        | _ => false)
    else match x.state with
      | .joker => true
      | .bridge => decide (x.request = .digital) || decide (d.blocks[b].role = .substituting)
      | _ => false

/-- Events of vectors that have not started move with a correction (R181, R182; log entry 49). -/
def Cell.shiftEvents (x : Cell) (now next : Nat) (drive compare : Int) : Cell :=
  let move := fun (t : Nat) (n : Int) => ((t : Int) + n).toNat
  let later := fun (q : FrcCtl) => decide (next ≤ q.at')
  let clock := drive ≠ 0 ∧ (x.frc.running ∨ x.frc.ctl ≠ [])
  { x with edges := x.edges.map fun e => if now < e.start then { e with at' := move e.at' drive } else e
           strobes := x.strobes.map fun s =>
             if now < s.start then { s with opens := move s.opens compare, closes := move s.closes compare, shift := s.shift + compare }
             else s
           frc := if clock then
             { x.frc with ctl := x.frc.ctl.filter (fun q => !later q) ++ { at' := next, op := .shift drive } ::
                 (x.frc.ctl.filter later).map fun q => { q with at' := move q.at' drive } } else x.frc }

/-- The vector boundary ahead at a region: the first start to come of a vector issued, or that of the next one. -/
def Region.boundaryAhead (x : Region) (now : Nat) : Nat :=
  (x.vecs.find? fun v => decide (now < v.start)).elim (x.seq.nextStart.getD now) (·.start)

/-- Corrections of a unit change: the events of the pin it serves move at the next vector boundary, and where its trims change the
comparator looks at its input again (R105, R182; log entry 49). -/
def Device.correct (d : Device) (b : BlockIx) (p : Nat) (f : CalUnit → CalUnit) : Device :=
  let e := d.onCal b p f
  match d.pinOf b p with
  | none => e
  | some c =>
    let x := d.cells[c]
    let next := ballTime (d.regions[cellRegion c].boundaryAhead d.time) 0 (x.driveShift (d.judge c))
    let drive := (e.judge c).drive.lag - (d.judge c).drive.lag
    let compare := (e.judge c).compare.lag - (d.judge c).compare.lag
    let e' := e.onCell c fun y => y.shiftEvents d.time next drive compare
    if (e.judge c).trims = (d.judge c).trims then e' else e'.lookAgain c

/-- A calibration of a unit ends rejected: the collector is told, with an entry for each (R192). -/
def Device.rejected (d : Device) (b : BlockIx) (p : Nat) : Device :=
  ((d.onCal b p fun u => u.reject (unitNumber b p)).entryFor (.block b) 2).setCause (.block b) 2 true

/-- The block collector's sources that follow the state of its units (R180, R192, R394). -/
def Device.calSources (d : Device) (b : BlockIx) : Device :=
  (d.setCause (.block b) 2 (d.anySuspect b)).setCause (.block b) 1 (d.anyExcursion b)

/-- A calibration of a unit is accepted (R191). -/
def Device.accepted (d : Device) (b : BlockIx) (p : Nat) (a m : Measure) : Device :=
  let now := d.now
  let disc := d.disciplined
  let walks := d.walks b p
  let onBall := d.onBall b p
  let fault := d.blocks[b].refFault
  ((d.correct b p fun u => u.accept a m (ballOffset b p) walks onBall fault now disc).newTaps b p).calSources b

/-- CAL_PASS_COMPLETE: pass A is kept; after pass B the calibration is accepted, repeated or rejected (R191). -/
def Device.calPass (d : Device) (b : BlockIx) (p : Nat) (m : Measure) : Device :=
  let u := d.cal b p
  if u.activity ≠ .calibrating then d
  else match u.passA with
    | none => d.onCal b p fun u => { u with passA := some m }
    | some a =>
      if agrees a m then ((d.accepted b p a m).calDone b p false).fullEnd (blockRegion b)
      else if u.repeats < 3 then d.onCal b p fun u => { u with passA := none, repeats := u.repeats + 1, retries := u.retries + 1 }
      else ((d.rejected b p).calDone b p true).fullEnd (blockRegion b)

/-! ### Searches for quiet points (R190) -/

/-- QUIET_TIMEOUT: the swap-in is deferred, or the swap-back is late; a request whose cell has its sine route on meanwhile waits as any
other such request does, without a deferral (R229). -/
def Device.quietTimeout (d : Device) (b : BlockIx) : Device :=
  match d.blocks[b].position with
  | some p =>
    match (d.cal b p).activity with
    | .tracking =>
      let x := d.cells[blockCell b p]
      if d.blocks[b].role ≠ .tracking ∨ x.path.state = .bridge then d
      else
        let d := (d.keepJoker b).onBlock b fun k => { k.freeJoker with active := none }
        if x.dds.enable then
          let q := d.blocks[b].queue
          let again : CalRequest := { unit := p, byCommand := x.cal.byCommand }
          (d.onCal b p fun u => { u with activity := .pending }).onBlock b fun k =>
            { k with queue := if d.calQueued b p then q else again :: q }
        else d.onCal b p fun u => { u with activity := .deferred, deferrals := u.deferrals + 1 }
    | .awaitSwapBack => d.onCal b p fun u => { u with swapBackLate := true }
    | _ => d
  | none => d

/-- DEFER_RETRY_EXPIRY: the request is in the queue again. -/
def Device.deferRetry (d : Device) (b : BlockIx) (p : Nat) : Device :=
  let u := d.cal b p
  if u.activity = .deferred then
    (d.onCal b p fun u => { u with activity := .pending }).onBlock b fun x =>
      { x with queue := if d.calQueued b p then x.queue else x.queue ++ [{ unit := p, byCommand := u.byCommand }] }
  else d

/-! ### Gradual steps and background calibration (R181, R194) -/

/-- One step of 1 toward the target (R181; log entry 49). -/
def Walk.step (w : Walk) : Walk :=
  if w.applied < w.target then { w with applied := w.applied + 1 }
  else if w.target < w.applied then { w with applied := w.applied - 1 } else w
/-- Every quantity of a unit steps; off the ball or outside Run each stands at its target. -/
def CalUnit.step (u : CalUnit) (walks : Bool) : CalUnit :=
  if walks then { u with drive := u.drive.step, compare := u.compare.step, trims := u.trims.map Walk.step } else u.settle

/-- GRADUAL_STEP over a region (log entry 49). -/
def Device.gradual (d : Device) (r : RegionIx) : Device :=
  let w := d
  (blocksOf r).foldl (fun d b => places.foldl (fun d p => d.correct b p fun u => u.step (w.walks b p)) d) d

/-- A background target has moved too far (R183). -/
def CalUnit.movedFar (u : CalUnit) : Bool :=
  decide (8 < (u.drive.target - u.drive.accepted).natAbs) || decide (8 < (u.compare.target - u.compare.accepted).natAbs) ||
    u.trims.any fun w => decide (40 < (w.target - w.accepted).natAbs)

/-- A unit takes what a visit measured: replica changes, trims unless RefFault, tap widths where the collection succeeds
(R177, R179, R194). -/
def CalUnit.visit (u : CalUnit) (drive compare : Int) (levels : List Int) (hits : List Nat) (refFault walks : Bool) : CalUnit :=
  { u with drive := u.drive.retarget (u.drive.accepted + drive) walks
           compare := u.compare.retarget (u.compare.accepted + compare) walks
           trims := if refFault then u.trims
             else (u.trims.zip (levelTrims 1 levels u.thresholdOffsets)).map fun (w, t) => w.retarget t walks
           taps := if hitsOk visitHits hits then tapWidths hits else u.taps }

/-- How far a reading of REFV lies from 2.5 V, µV. -/
def refError (refv : Int) : Nat := (refv - 2500000).natAbs

/-- A background cycle reads REFV: more than 0.5 % off is a RefFault, and a reading more than 0.4 % off keeps one (R179). -/
def Block.readRef (x : Block) (refv : Int) (now : Nat) : Block :=
  { x with refvReading := refv, refFault := x.refFault || decide (12500 < refError refv)
           refOff := if 10000 < refError refv then now else x.refOff }

/-- BACKGROUND_VISIT (R179, R194). -/
def Device.visit (d : Device) (b : BlockIx) (refv drive compare : Int) (levels : List Int) (hits : List Nat) : Device :=
  let r := d.regions[blockRegion b]
  if !r.mode.active || decide (d.shed.stage ≠ 0) || !r.calPolicy.background then d
  else
    let p := d.blocks[b].visit
    let now := d.time
    let d := d.onBlock b fun x =>
      { x.readRef refv now with visit := (p + 1) % 17, cycleCount := if p = 16 then x.cycleCount + 1 else x.cycleCount }
    let d := if 12500 < refError refv then d.setCause (.block b) 0 true else d
    if (d.cal b p).activity.working then d
    else
      let fault := d.blocks[b].refFault
      let walks := d.walks b p
      let d := d.correct b p fun u => u.visit drive compare levels hits fault walks
      let d := if hitsOk visitHits hits then d.newTaps b p else d
      if (d.cal b p).movedFar then d.requestCal b p false else d

/-- The disagreement of REFV has stayed within 0.4 % for 1 s (R179). -/
def Block.refSteady (x : Block) (now : Nat) : Bool :=
  decide (refError x.refvReading ≤ 10000) && decide (x.refOff + 3276800000000 ≤ now)

/-- REF_FAULT_CLEAR: the block leaves RefFault once REFV has been steady; before, nothing happens (R179). -/
def Device.refClear (d : Device) (b : BlockIx) : Device :=
  if d.blocks[b].refSteady d.time then (d.onBlock b fun x => { x with refFault := false }).setCause (.block b) 0 false else d

/-! ### Remap (R196) -/

/-- A write of JokerControl.RemapPosition (log entry 44). -/
def specRemap (b : BlockIx) (v : Nat) (d : Device) : WSpec :=
  let x := d.blocks[b]
  let moving := decide (v < 16) && decide (d.cells[blockCell b v].path.state = .switching)
  { len := 1
    state := [d.busyCheck (blockRegion b),
              (decide (v ≠ 0xFF) && (decide (x.role ≠ .idle) || decide (x.remapPosition ≠ 0xFF) || moving), 5, 3)]
    value := [(decide (16 ≤ v ∧ v ≠ 0xFF), 7, 1)]
    apply := fun d =>
      if v < 16 then
        let d := d.onBlock b fun x => { x with remapPosition := v, role := .remapped, position := some v, lastBall := v }
        d.onCell (blockCell b v) fun c =>
          let c := { c with path := { c.path with remapped := true } }
          if c.path.state = .isolated then c else { c.closeJoker with cal := c.cal.leave }
      else if d.blocks[b].remapPosition < 16 then
        let p := d.blocks[b].remapPosition
        ((d.keepJoker b).onCell (blockCell b p) fun c => { c.openAll with path := { c.openAll.path with remapped := false } }).onBlock b
          fun x => { x with remapPosition := 0xFF, role := .idle, position := none, jokerCal := x.jokerCal.leave }
      else d }

/-! ### CalPolicy, CalStatus (R199, R201) -/

/-- CalPolicy.Options as a word. -/
def CalPolicy.options (k : CalPolicy) : Nat := b2n k.autoCellCal + b2n k.background * 2 + b2n k.swapInRun * 4

/-- A write of CalPolicy but its Command. -/
def specCalPolicy (r : RegionIx) (sub v : Nat) : WSpec :=
  let set := fun (f : CalPolicy → CalPolicy) (d : Device) => d.onRegion r fun x => { x with calPolicy := f x.calPolicy }
  match sub with
  | 1 => { len := 1, value := [inRangeN v 1 32], apply := set fun k => { k with deltaT := v } }
  | 2 => { len := 2, value := [inRangeN v 1 1000], apply := set fun k => { k with stepInterval := v } }
  | 3 => { len := 2, value := [inRangeN v 1 1000], apply := set fun k => { k with quietTimeout := v } }
  | 4 => { len := 2, value := [inRangeN v 1 60000], apply := set fun k => { k with deferRetry := v } }
  | _ => { len := 4, apply := set fun k => { k with autoCellCal := bitAt v 0, background := bitAt v 1, swapInRun := bitAt v 2 } }

/-- CalPolicy.Command. -/
def specCalPolicyCmd (r : RegionIx) (v : Nat) : WSpec :=
  let all := fun (f : Device → BlockIx → Nat → Device) (d : Device) =>
    (blocksOf r).foldl (fun d b => places.foldl (fun d p => f d b p) d) d
  match v with
  | 1 => { len := 1, apply := all fun d b p => d.requestCal b p true }
  | 2 => { len := 1, apply := all fun d b p => d.cancelCal b p }
  | _ => { len := 1, value := [codeCheck v 3], apply := id }

/-- CalStatus.Command of a place. -/
def specCalCmd (b : BlockIx) (p v : Nat) : WSpec :=
  match v with
  | 1 => { len := 1, apply := fun d => d.requestCal b p true }
  | 2 => { len := 1, apply := fun d => d.cancelCal b p }
  | _ => { len := 1, value := [codeCheck v 3], apply := id }

/-- A write of a cell's Deskew (R178, R201). -/
def specDeskew (c : CellIx) (v : Nat) (d : Device) : WSpec where
  len := 4
  state := [d.busyCheck (cellRegion c)]
  value := [inRange (signed 32 v) (-32768) 32767]
  apply := fun d => d.onCell c fun x => { x with cal := { x.cal with deskew := signed 32 v } }

/-- The target of CalStatus of a unit (R201). -/
def calTarget (u : Fin 136) (sub : Nat) : Target :=
  if h : u.val < 128 then cellTarget ⟨u.val, h⟩ 7 sub else jokerTarget (unitBlock u) 7 sub

/-! ### The commands -/

/-- SWITCH_SENSED (R121, R188): the step of a transition or of a Bridge that waited for its switches; a measurement that waited
for the transition starts to settle (R216). -/
def execSwitchSensed (c : CellIx) (s : State) : Host.Outcome State Fault Refusal :=
  onDev s fun d =>
    let d := match d.cells[c].path.step with
      | some .bridgeIn => d.bridgeInEnd c
      | some .bridgeOut => d.bridgeOutEnd c
      | _ => d.onCell c Cell.switched
    (d.onCell c fun x => x.dequeue (2 ≤ d.shed.stage)).fullEnd (cellRegion c)
/-- CALIBRATE (R201). -/
def execCalibrate (h : Hdr) (u : Fin 136) (s : State) : Host.Outcome State Fault Refusal :=
  onDev s fun d => d.writeCmd h (calTarget u 0x11) 1 fun _ _ => specCalCmd (unitBlock u) (unitPlace u) 1
/-- CANCEL (R201). -/
def execCancel (h : Hdr) (u : Fin 136) (s : State) : Host.Outcome State Fault Refusal :=
  onDev s fun d => d.writeCmd h (calTarget u 0x11) 2 fun _ _ => specCalCmd (unitBlock u) (unitPlace u) 2
/-- REQUEST_ALL (R199). -/
def execRequestAll (h : Hdr) (r : RegionIx) (s : State) : Host.Outcome State Fault Refusal :=
  onDev s fun d => d.writeCmd h (regionTarget r 0x60 6) 1 fun _ _ => specCalPolicyCmd r 1
/-- CANCEL_PENDING (R199). -/
def execCancelPending (h : Hdr) (r : RegionIx) (s : State) : Host.Outcome State Fault Refusal :=
  onDev s fun d => d.writeCmd h (regionTarget r 0x60 6) 2 fun _ _ => specCalPolicyCmd r 2
/-- CAL_REQUEST_START (R184). -/
def execCalRequestStart (b : BlockIx) (s : State) : Host.Outcome State Fault Refusal := onDev s fun d => (d.startCal b).fullEnd (blockRegion b)
/-- PRELOAD_COMPLETE (R186). -/
def execPreloadComplete (b : BlockIx) (s : State) : Host.Outcome State Fault Refusal := onDev s fun d => d.preloaded b
/-- SWAP_IN (R188). -/
def execSwapIn (b : BlockIx) (s : State) : Host.Outcome State Fault Refusal := onDev s fun d => d.swapIn b
/-- SWAP_BACK (R188). -/
def execSwapBack (b : BlockIx) (s : State) : Host.Outcome State Fault Refusal := onDev s fun d => d.swapBack b
/-- QUIET_TIMEOUT (R190). -/
def execQuietTimeout (b : BlockIx) (s : State) : Host.Outcome State Fault Refusal := onDev s fun d => d.quietTimeout b
/-- DEFER_RETRY_EXPIRY (R190). -/
def execDeferRetryExpiry (u : Fin 136) (s : State) : Host.Outcome State Fault Refusal :=
  onDev s fun d => d.deferRetry (unitBlock u) (unitPlace u)
/-- CAL_PASS_COMPLETE (R191). -/
def execCalPassComplete (u : Fin 136) (m : Measure) (s : State) : Host.Outcome State Fault Refusal :=
  onDev s fun d => d.calPass (unitBlock u) (unitPlace u) m
/-- GRADUAL_STEP (R181). -/
def execGradualStep (r : RegionIx) (s : State) : Host.Outcome State Fault Refusal := onDev s fun d => d.gradual r
/-- BACKGROUND_VISIT (R194). -/
def execBackgroundVisit (b : BlockIx) (refv drive compare : Int) (levels : List Int) (hits : List Nat) (s : State) :
    Host.Outcome State Fault Refusal :=
  onDev s fun d => d.visit b refv drive compare levels hits
/-- REF_FAULT_CLEAR (R179). -/
def execRefFaultClear (b : BlockIx) (s : State) : Host.Outcome State Fault Refusal :=
  onDev s fun d => d.refClear b
/-- REMAP_POSITION_WRITE (R196). -/
def execRemapPositionWrite (h : Hdr) (b : BlockIx) (w : Data) (s : State) : Host.Outcome State Fault Refusal :=
  onDev s fun d => d.writeReg h (jokerTarget b 1 1) w fun _ => specRemap b w.val

end Sys2Proof.Machine
end

