-- ==== Sys2Proof/Machine/Drain.lean ====
section
/-!
DEFINITION. The Tally's drain up to the DRAM write: the records that leave the fail FIFO as a group, and those dropped as they
leave it (R140 to R142, R144).
-/
namespace Sys2Proof.Machine

/-- AreaCapacity (R140). -/
def Dram.areaCapacity (m : Dram) : Nat := if m.inService = 0 then 0 else m.failBytes / 192 * 8

/-- The Tally's drain is not paused (R144, R145). -/
def Device.draining (d : Device) (r : RegionIx) : Bool :=
  let x := d.regions[r]
  let on := match x.tally.state with | .capturing | .frozen | .draining => true | _ => false
  on && (decide (x.dram.state = .active) || decide (x.dram.state = .serviceExit) || decide (x.dram.state = .absent))

/-- A record leaves the FIFO unstored: it and the drops before it stand in the gap of the next record taken (R130). -/
def Tally.gapOf (t : Tally) (q : FifoRecord) : Nat := t.drainGap + q.before + 1

/-- A damaged record is dropped as it is taken (R142). -/
def Device.dropDamaged (d : Device) (r : RegionIx) (q : FifoRecord) : Device :=
  let was := d.regions[r].tally.counters.drops
  let d := d.onTally r fun t =>
    { t with drainGap := t.gapOf q, counters := { t.counters with dropIntegrity := t.counters.dropIntegrity + 1 } }
  (d.firstDrop r was).raise (.region r) 6

/-- A record that finds the fail area full is dropped (R141). -/
def Device.dropFull (d : Device) (r : RegionIx) (q : FifoRecord) : Device :=
  let was := d.regions[r].tally.counters.drops
  let d := d.onTally r fun t =>
    { t with drainGap := t.gapOf q, areaFull := true, counters := { t.counters with dropAreaFull := t.counters.dropAreaFull + 1 } }
  d.firstDrop r was

/-- Slots left in the group of the next slot (R140). -/
def Tally.room (t : Tally) : Nat := 8 - t.nextSlot % 8

/-- No slot is left for a record (R141). -/
def Tally.full (t : Tally) (capacity : Nat) : Bool := decide (capacity = 0) || (!t.live.wrap && decide (capacity ≤ t.nextSlot))

/-- The check of a record's codewords as it is taken (R142, R252). -/
def FifoRecord.check (q : FifoRecord) : Recovered := recover 3 noFold q.data.toNat q.chk.toNat

/-- Records that will pass their check. -/
def Tally.good (t : Tally) : Nat := (t.fifo.filter fun q => q.check.ok).length

/-- A record leaves the FIFO and is checked: a corrected bit is counted in the region collector, and one that is uncorrectable drops
it; `keep` is what becomes of a record that is whole (R142). -/
def Device.takeRecord (d : Device) (r : RegionIx) (q : FifoRecord) (keep : Device → Recovered → Device) : Device :=
  let w := q.check
  if !w.ok then d.dropDamaged r q else keep (if w.corrected = 0 then d else d.raise (.region r) 5) w

/-- A whole record joins the group that is written; it tells of the drops before it (R130, R140). -/
def Device.joinGroup (r : RegionIx) (q : FifoRecord) (d : Device) (w : Recovered) : Device :=
  d.onTally r fun t =>
    { t with writing := t.writing ++ [{ data := BitVec.ofNat 192 w.data, gap := t.drainGap + q.before }], drainGap := 0 }

/-- Records leave the FIFO in order until so many stand ready, or none is left. -/
def Device.takeRecords (r : RegionIx) : Nat → Nat → Device → Device
  | 0, _, d => d
  | fuel + 1, k, d =>
    if k = 0 then d
    else match d.regions[r].tally.fifo with
      | [] => d
      | q :: rest =>
        let d := d.onTally r fun t => { t with fifo := rest }
        Device.takeRecords r fuel (if q.check.ok then k - 1 else k) (d.takeRecord r q (Device.joinGroup r q))

/-- Every record in the FIFO is dropped, damaged ones as such. -/
def Device.dropAll (d : Device) (r : RegionIx) : Device :=
  let l := d.regions[r].tally.fifo
  let d := d.onTally r fun t => { t with fifo := [] }
  l.foldl (fun d q => d.takeRecord r q fun d _ => d.dropFull r q) d

/-- A Tally whose run has ended and that holds no record is Idle (R145). -/
def Tally.rest (t : Tally) : Tally :=
  let t := if t.fifo = [] then { t with flush := false } else t
  if t.state = .draining ∧ t.level = 0 then { t with state := .idle } else t

/-- The drain takes the records of the next group when all of them are ready, or those that are there when a partial group is owed;
one group is under way at a time (R140; log entry 41). -/
def Device.drain (d : Device) (r : RegionIx) : Device :=
  let x := d.regions[r]
  let t := x.tally
  if !d.draining r || decide (t.writing ≠ []) then d
  else
    let d := if t.full x.dram.areaCapacity then d.dropAll r
      else if t.flush || decide (t.room ≤ t.good) then Device.takeRecords r t.fifo.length t.room d
      else d
    d.onTally r Tally.rest

/-- Errors turn over bits of records that wait in the FIFO (R142). -/
def Tally.strike (t : Tally) (errs : List FifoErr) : Tally :=
  { t with fifo := mapFrom (fun i (q : FifoRecord) =>
      (errs.filter fun e => decide (e.place = i)).foldl (fun (q : FifoRecord) (e : FifoErr) =>
        { q with data := q.data ^^^ e.data, chk := q.chk ^^^ e.chk }) q) 0 t.fifo }

end Sys2Proof.Machine
end

