-- ==== Sys2Proof/Machine/Waggle.lean ====
section
/-!
DEFINITION. Waggle: channel objects and commands, the settling of offers at a consumer, and the EVIO balls (R281, R284,
R287 to R296).
-/
namespace Sys2Proof.Machine

/-! ### Arrival of offers (R287 to R289) -/

/-- A sequencer latch: it belongs to one channel, so its offers do not merge (R287). -/
def isLatch (c : Nat) : Bool := decide (c < 2)
/-- The region whose sequencer a latch consumer names. -/
def latchRegion (c : Nat) : RegionIx := if c = 0 then 0 else 1
/-- A block's place in a range of eight consumers. -/
def blockOf (c : Nat) : BlockIx := ⟨c % 8, by omega⟩

/-- A consumer is busy (R287). -/
def Device.consumerBusy (d : Device) (c : Nat) (k : WaggleIx) : Bool :=
  if isLatch c then d.regions[latchRegion c].seq.latches[k].isSome
  else if 0x28 ≤ c ∧ c < 0x30 then
    let e := d.waggle.evio[c % 8]'(by omega)
    e.pulse || !e.config.getLsbD 0
  else if c = 0x30 then decide (Config.notifyWaggle ≤ d.waggleNotifies)
  else if 0x31 ≤ c ∧ c < 0x35 then d.ryu.ctxs[(c - 0x31) % 4].unserved
  else false

/-- A delivery to a context's event input requests its EventRoutine, or is served at once (R310). -/
def Device.eventInput (d : Device) (x : CtxIx) (o : Offer) : Device :=
  let n := d.ryu.ctxs[x].eventRoutine
  if n = 0xFFFF then d
  else
    (d.onCtx x fun c => { c with unserved := true }).requestRoutine x
      { routine := n, args := [BitVec.ofNat 64 o.chan.val, BitVec.ofNat 64 o.time]
        scope := match ctxRegion x with | some r => ColId.region r | none => ColId.chip, event := true }

/-- One EVIO ball changes. -/
def Device.onEvio (d : Device) (n : Fin 8) (f : Evio → Evio) : Device :=
  { d with waggle := { d.waggle with evio := d.waggle.evio.set n (f d.waggle.evio[n]) } }

/-- An output drives its active level for PulseWidth FCLK cycles from the one of the delivery on (R293). -/
def Evio.startPulse (e : Evio) (cy : Nat) : Evio :=
  { e with pulse := true, pulseEnd := cy + field e.config.toNat 8 8, out := !e.idle }

/-- What a delivery does at its consumer (R76, R138, R159, R215, R229, R234, R287, R293, R310). -/
def Device.deliver (d : Device) (c : Nat) (o : Offer) : Device :=
  if isLatch c then d.onSeq (latchRegion c) fun q => { q with latches := q.latches.set o.chan (some d.time) }
  else if c = 2 ∨ c = 4 then
    let r : RegionIx := if c = 2 then 0 else 1
    d.freezeRequest r
  else if c = 3 ∨ c = 5 then d.unfreezeRequest (if c = 3 then 0 else 1)
  else if 8 ≤ c ∧ c < 0x10 then
    let t := d.nextFclk
    d.onCells (inBlock (blockOf c)) fun x => x.waggleArm t
  else if 0x10 ≤ c ∧ c < 0x18 then
    let paused := decide (2 ≤ d.shed.stage)
    d.onCells (inBlock (blockOf c)) fun x => x.waggleMeasure paused
  else if 0x18 ≤ c ∧ c < 0x20 then d.onBlock (blockOf c) fun x => x.ddsTrigger 1
  else if 0x20 ≤ c ∧ c < 0x28 then d.waggleBlank (blockOf c)
  else if 0x28 ≤ c ∧ c < 0x30 then 
    let cy := d.fclk
    d.onEvio ⟨c % 8, by omega⟩ fun e => e.startPulse cy
  else if c = 0x30 then d.notifyAt o.time o.disciplined 3 0 o.chan.val o.firings 0
  else if 0x31 ≤ c ∧ c < 0x35 then d.eventInput ⟨(c - 0x31) % 4, by omega⟩ o
  else d

/-- One consumer record changes. -/
def Device.onConsumer (d : Device) (c : Nat) (f : Consumer → Consumer) : Device :=
  { d with waggle := { d.waggle with consumers := vmap (fun i x => if i = c then f x else x) d.waggle.consumers } }

/-- A candidate at a consumer: delivered, or an overrun if the consumer is busy (R288). -/
def Device.settleOne (d : Device) (c : Nat) (o : Offer) : Device :=
  if d.consumerBusy c o.chan then
    (d.onChan o.chan fun x => { x with overrun := x.overrun + 1 }).onConsumer c fun x =>
      { x with overruns := satAdd (maxU 32) x.overruns 1, overrun := true }
  else (d.onChan o.chan fun x => { x with delivered := x.delivered + 1 }).deliver c o

/-- The offer of the lowest channel, the first of those. -/
def lowestOffer : List Offer → Option Offer
  | [] => none
  | o :: rest => match lowestOffer rest with
    | none => some o
    | some p => if p.chan.val < o.chan.val then some p else some o

/-- Offers of one channel in one arrival cycle merge behind the candidate (R288). -/
def Device.mergeOne (d : Device) (o : Offer) : Device := d.onChan o.chan fun x => { x with merged := x.merged + 1 }

/-- The offers that are not the candidate, which is the first of its channel. -/
def dropFirst (k : WaggleIx) : List Offer → List Offer
  | [] => []
  | o :: rest => if o.chan = k then rest else o :: dropFirst k rest

/-- Offers that arrive at a consumer in one cycle are settled (R288, R289; log entry 17). -/
def Device.settle (d : Device) (c : Nat) (os : List Offer) : Device :=
  let off : Bool := match consumerRegion c with
    | some r => decide (d.regions[r].mode = .off) || d.dieOff r
    | none => false
  if off then os.foldl (fun (d : Device) (o : Offer) => d.onChan o.chan fun x => { x with overrun := x.overrun + 1 }) d
  else if isLatch c then os.foldl (fun (d : Device) (o : Offer) => d.settleOne c o) d
  else match lowestOffer os with
    | none => d
    | some o =>
      let others := dropFirst o.chan os
      let d := others.foldl Device.mergeOne d
      let d := if others = [] then d else d.onConsumer c fun x =>
        { x with merged := satAdd (maxU 32) x.merged others.length, lastSource := o.chan.val }
      d.settleOne c o

/-- The first arrival cycle of the offers on their way to a consumer. -/
def Device.nextArrival (d : Device) (c : Nat) : Option Nat :=
  ((d.waggle.offers.filter fun o => o.consumer = c).map (·.due)).min?

/-- The device as far as it must go to know which offers reach a consumer next: as it is, where some arrive in the present FCLK cycle;
else past the end of that cycle, when its candidates are decided (R282, R288; log entry 2). -/
def Device.awaitArrival (d : Device) (c : Nat) : Device :=
  if (d.nextArrival c).any fun cy => decide (cy ≤ d.fclk) then d
  else if (d.endCycle.nextArrival c).isSome then d.endCycle else d.lastFires

/-- The next offers to arrive at a consumer arrive (R288). -/
def Device.arrive (d : Device) (c : Nat) : Device :=
  let e := d.awaitArrival c
  match e.nextArrival c with
  | none => d
  | some cy =>
    let d := e.advanceTo cy
    let here := fun (o : Offer) => decide (o.consumer = c) && decide (o.due = cy)
    let os := d.waggle.offers.filter here
    let d := { d with waggle := { d.waggle with offers := d.waggle.offers.filter fun o => !here o } }
    (d.settle c os).closeChannels

/-- Every offer in flight arrives, and every one that comes of those, as FCLK is held for them (R289; log entry 54). -/
def Device.arriveAll : Nat → Device → Device
  | 0, d => d
  | n + 1, d => match d.waggle.offers with
    | [] => if d.lastFires.waggle.offers = [] then d.lastFires else Device.arriveAll n d.lastFires
    | o :: _ => Device.arriveAll n (d.arrive o.consumer)

/-! ### Channel objects (R284, R291, R294, R295) -/

/-- Links of Chain that a channel stands at the end of: its own first, up to a limit. `act` are channels whose links count
(log entry 54). -/
def Device.chainDepth (d : Device) (act : WaggleIx → Bool) : Nat → WaggleIx → Nat
  | 0, _ => 0
  | n + 1, k =>
    let s := d.waggle.chans[k].source
    if h : 0x40 ≤ s ∧ s < 0x80 then (if act k then 1 + d.chainDepth act n ⟨s - 0x40, by omega⟩ else 0) else 0

/-- Enabling a channel would close a cycle, or make a path of more than 8 links (R284). -/
def Device.chainBad (d : Device) (k : WaggleIx) : Bool :=
  let act := fun j => decide (j = k) || decide (d.waggle.chans[j].state ≠ .disabled)
  (List.finRange 64).any fun j => decide (8 < d.chainDepth act 9 j)

/-- A reserved Source code (R285). -/
def sourceReserved (s : Nat) : Bool :=
  decide (0x0D ≤ s ∧ s ≤ 0x0F) || decide (0x15 ≤ s ∧ s ≤ 0x17) || decide (0x30 ≤ s ∧ s ≤ 0x3F) || decide (0x80 ≤ s)
/-- A reserved Gate code (R286). -/
def gateReserved (g : Nat) : Bool := decide (5 ≤ g ∧ g ≤ 7) || decide (0x10 ≤ g)
/-- A reserved bit of ConsumerMask (R294). -/
def maskReserved (m : Nat) : Bool := decide (field m 6 2 ≠ 0) || decide (field m 53 11 ≠ 0)

/-- A region that a channel refers to is Off. -/
def Device.refersOff (d : Device) (k : WaggleIx) : Bool :=
  regionsAll.any fun r => d.refersTo k r && decide (d.regions[r].mode = .off)
/-- A staleness check has begun and is not Done (R443). -/
def StaleState.unfinished (x : StaleState) : Bool := decide (x = .running) || decide (x = .abandoned)

/-- A region that a channel refers to has a staleness check whose State is not Done (R292, R443; log entry 54). -/
def Device.refersChecking (d : Device) (k : WaggleIx) : Bool :=
  regionsAll.any fun r => d.refersTo k r && d.regions[r].stale.state.unfinished

/-- Every counter of a channel is 0 (R295). -/
def WChan.clearCounts (x : WChan) : WChan :=
  { x with firings := 0, fired := 0, delivered := 0, merged := 0, overrun := 0, rateLimited := 0, gated := 0, coalesced := 0
           suspendedEvents := 0 }

/-- The Guarded rule (R291): `who` is the writer's session. -/
def Device.guardCheck (d : Device) (k : WaggleIx) (who : Nat) : Check :=
  (d.waggle.chans[k].guarded && decide (d.waggle.chans[k].owner ≠ who), 4, 3)

/-- Configuration of a channel (R294, R295). -/
def specWaggle (k : WaggleIx) (sub v who : Nat) (d : Device) : WSpec :=
  let set := fun (f : WChan → WChan) (d : Device) => d.onChan k f
  let access := [d.guardCheck k who]
  let state : List Check := [(decide (d.waggle.chans[k].state ≠ .disabled), 5, 3)]
  match sub with
  | 1 => { len := 1, access, state, value := [(sourceReserved v, 7, 2)], apply := set fun x => { x with source := v } }
  | 2 => { len := 1, access, state, value := [(gateReserved v, 7, 2)], apply := set fun x => { x with gate := v } }
  | 3 => { len := 8, access, state, value := [(maskReserved v, 7, 2)]
           apply := set fun x => { x with consumers := BitVec.ofNat 64 v } }
  | 4 => { len := 1, access, state, value := [codeCheck v 2], apply := set fun x => { x with guarded := decide (v = 1) } }
  | 6 => { len := 2, access, state, value := [inRangeN v 1 65535], apply := set fun x => { x with minInterval := v } }
  | _ => { len := 4, access, state, apply := set fun x => { x with gateInvert := bitAt v 0 } }

/-- Commands of a channel (R281, R291, R292, R295, R425): `secure` says that the writer's request is one of a secure session. -/
def specWaggleCmd (k : WaggleIx) (v who : Nat) (secure : Bool) (d : Device) : WSpec :=
  let x := d.waggle.chans[k]
  let guarded := [d.guardCheck k who]
  match v with
  | 1 =>
    { len := 1, access := guarded, state := [(d.refersOff k, 5, 1), (decide (x.state ≠ .disabled), 5, 3)]
      value := [(d.chainBad k, 7, 4)]
      apply := fun d => d.onChan k fun x => { x.clearCounts with owner := who, state := .enabled } }
  | 2 =>
    { len := 1, access := guarded
      apply := fun d => (d.onChan k fun x => if x.state = .disabled then x else { x with closing := true, fires := 0 }).closeChannels }
  | 3 =>
    { len := 1, access := guarded, state := [(decide (x.state ≠ .enabled), 5, 3)], 
      apply := fun d => d.onChan k fun x => { x with fires := x.fires + 1 } }
  | 4 =>
    { len := 1, access := guarded
      state := [(d.refersOff k, 5, 1), (decide (x.state ≠ .suspended) || d.refersChecking k, 5, 3)]
      apply := fun d => d.onChan k fun x => { x with state := .enabled } }
  | 5 =>
    { len := 1, access := guarded, state := [(decide (x.state ≠ .disabled), 5, 3)]
      apply := fun d => d.onChan k WChan.clearCounts }
  | 6 =>
    { len := 1, access := [if d.sec.life = .sealed then (!secure, 4, 2) else (true, 4, 6)]
      apply := fun d => d.onChan k fun x => { x with owner := who } }
  | _ => { len := 1, access := guarded, value := [codeCheck v 7], apply := id }

/-- The target of a channel's subindex (R294). -/
def chanTarget (k : WaggleIx) (sub : Nat) : Target := chipTarget (0x2300 + k.val) sub
/-- A Command of a channel (R295; log entry 54). -/
def Device.waggleCmd (d : Device) (h : Hdr) (k : WaggleIx) (v : Nat) : Device :=
  d.writeCmd h (chanTarget k 9) v fun i d => specWaggleCmd k v (sessNo i) (d.isSecure i h) d

/-- ClearConsumers (R296). -/
def specClearConsumers (v : Nat) : WSpec :=
  { len := 1, value := [boolCheck v]
    apply := fun d => if v = 1 then { d with waggle := { d.waggle with consumers := Vector.replicate 64 {} } } else d }

/-! ### EVIO (R293) -/

/-- A channel names an EVIO ball as Source, Gate or consumer. -/
def WChan.namesEvio (x : WChan) (n : Nat) : Bool :=
  decide (x.source = 0x28 + n) || decide (x.gate = 8 + n) || x.consumers.getLsbD (0x28 + n)

/-- EvioConfig takes a value: an input drives nothing, and an output stands at its idle level but while its pulse lasts (R293). -/
def Evio.configure (e : Evio) (v : BitVec 32) : Evio :=
  let pulse := e.pulse && v.getLsbD 0
  { e with config := v, pulse, out := v.getLsbD 0 && (if pulse then !v.getLsbD 4 else v.getLsbD 4) }

/-- EvioConfig (R293). -/
def specEvio (n : Fin 8) (v : Nat) (d : Device) : WSpec :=
  let was := d.waggle.evio[n].config.getLsbD 0
  let named := d.waggle.chans.toList.any fun x => decide (x.state ≠ .disabled) && x.namesEvio n.val
  { len := 4
    state := [((bitAt v 0).xor was && named, 5, 3)]
    value := [(decide (field v 8 8 = 0), 7, 1), (decide (field v 2 2 = 3), 7, 2)]
    apply := fun d => d.onEvio n fun e => e.configure (BitVec.ofNat 32 v &&& 0xFF1D) }

/-- A level change after the synchroniser: an event where the ball is an input and Edge selects it (R293). -/
def Device.evioEdge (d : Device) (n : Fin 8) (level : Bool) : Device :=
  if !d.modes.clocks || decide (d.waggle.evio[n].level = level) then d
  else
    let d := d.onEvio n fun e => { e with level := level }
    let e := d.waggle.evio[n]
    if e.config.getLsbD 0 then d
    else if selects (field e.config.toNat 2 2) level then d.sourceEvent (0x28 + n.val) .chip else d

/-! ### The commands -/

/-- OFFER_ARRIVAL (R288). -/
def execOfferArrival (consumer : WaggleIx) (s : State) : Host.Outcome State Fault Refusal :=
  onDev s fun d => d.arrive consumer.val
/-- ENABLE (R295). -/
def execEnable (h : Hdr) (k : WaggleIx) (s : State) : Host.Outcome State Fault Refusal := onDev s fun d => d.waggleCmd h k 1
/-- DISABLE (R295). -/
def execDisable (h : Hdr) (k : WaggleIx) (s : State) : Host.Outcome State Fault Refusal := onDev s fun d => d.waggleCmd h k 2
/-- FIRE (R281). -/
def execFire (h : Hdr) (k : WaggleIx) (s : State) : Host.Outcome State Fault Refusal := onDev s fun d => d.waggleCmd h k 3
/-- RECONFIRM (R292). -/
def execReconfirm (h : Hdr) (k : WaggleIx) (s : State) : Host.Outcome State Fault Refusal := onDev s fun d => d.waggleCmd h k 4
/-- WAGGLE_CLEAR_COUNTS (R295). -/
def execWaggleClearCounts (h : Hdr) (k : WaggleIx) (s : State) : Host.Outcome State Fault Refusal :=
  onDev s fun d => d.waggleCmd h k 5
/-- RECLAIM (R291). -/
def execReclaim (h : Hdr) (k : WaggleIx) (s : State) : Host.Outcome State Fault Refusal := onDev s fun d => d.waggleCmd h k 6
/-- CLEAR_CONSUMERS (R296). -/
def execClearConsumers (h : Hdr) (w : Data) (s : State) : Host.Outcome State Fault Refusal :=
  onDev s fun d => d.writeReg h (chipTarget 0x2341 0) w fun _ _ => specClearConsumers w.val
/-- EVIO_EDGE (R293). -/
def execEvioEdge (n : Fin 8) (level : Bool) (s : State) : Host.Outcome State Fault Refusal := onDev s fun d => d.evioEdge n level
/-- EVIO_PULSE_END (R293): the pulse has lasted its PulseWidth (log entry 2). -/
def execEvioPulseEnd (n : Fin 8) (s : State) : Host.Outcome State Fault Refusal :=
  onDev s fun d => if d.waggle.evio[n].pulse then d.advanceTo d.waggle.evio[n].pulseEnd else d

end Sys2Proof.Machine
end

