-- ==== Sys2Proof/Machine/Collectors.lean ====
section
/-!
DEFINITION. Collector objects, collector self-faults, void marks of the Balances, fault injection and the log ring
(R393, R397, R401 to R414).
-/
namespace Sys2Proof.Machine

/-! ### Source codes (R393, R394) -/

/-- The number of sources of a collector (R394). -/
def sourceCount : ColId → Nat
  | .cell _ => 6
  | .block _ => 5
  | .region _ => 19
  | .chip => 12

/-- The collector that a source code's Scope and Instance name (R393). -/
def codeCollector (code : Nat) : Option ColId :=
  let i := field code 6 7
  match field code 13 3 with
  | 0 => if i = 0 then some .chip else none
  | 1 => if h : i < 2 then some (.region ⟨i, h⟩) else none
  | 2 => if h : i < 8 then some (.block ⟨i, h⟩) else none
  | 3 => if h : i < 128 then some (.cell ⟨i, h⟩) else none
  | _ => none

/-- The source that a code names (R393, R394). -/
def codeSource (code : Nat) : Option (ColId × Nat) :=
  match codeCollector code with
  | some col => if field code 0 6 < sourceCount col then some (col, field code 0 6) else none
  | none => none

/-- The instance number of a collector (R393). -/
def colInstance : ColId → Nat
  | .chip => 0
  | .region r => r.val
  | .block b => b.val
  | .cell c => c.val

/-- The default reactions of a collector (R394). -/
def colReactions : ColId → List Nat
  | .chip => chipReactions
  | .region _ => regionReactions
  | .block _ => blockReactions
  | .cell _ => cellReactions

/-! ### Balances (R408) -/

/-- Chip Balances are marked void: bits 0 Event, 1 Credit, 2 Log, and the entry for those that were not (R408; log entry 64). -/
def Device.voidChip (d : Device) (event credit log : Bool) : Device :=
  let c := d.chip
  let bits := b2n (event && !c.voidEvent) * 2 + b2n (credit && !c.voidCredit) * 4 + b2n (log && !c.voidLog) * 8
  let d := { d with chip := { d.chip with voidEvent := c.voidEvent || event, voidCredit := c.voidCredit || credit
                                          voidLog := c.voidLog || log } }
  if bits = 0 then d else d.addLog 1 (noteCode 0 0xB) bits

/-- The run Balances of a region are marked void, from Start until its Tally is Idle (R408). -/
def Device.voidRun1 (d : Device) (r : RegionIx) : Device :=
  let x := d.regions[r]
  if (x.run.inProgress || decide (x.tally.state ≠ .idle)) && !x.run.balanceVoid then
    (d.onRun r fun x => { x with balanceVoid := true }).addLog 1 (noteCode r.val 0xB) 1
  else d

/-- The run Balances of a region, and of both in coupled operation (R408). -/
def Device.voidRun (d : Device) (r : RegionIx) : Device :=
  let d := d.voidRun1 r
  if d.modes.coupled then d.voidRun1 (partner r) else d

/-- A condition of R407 fails now: a watched rail is below warning, or DeviceMode is Factory (log entry 64). -/
def Device.balancesBroken (d : Device) : Bool := decide (d.shed.cause ≠ 0) || d.modes.factory

/-- FaultSummary.Command ClearBalanceVoid: a condition that still fails marks them again (R406, R408). -/
def Device.clearVoid (d : Device) : Device :=
  let d := { d with chip := { d.chip with voidEvent := false, voidCredit := false, voidLog := false } }
  if d.balancesBroken then d.voidChip true true true else d

/-! ### Clears and configuration (R397, R401, R404, R405) -/

/-- The collectors below that have failed, as a collector keeps them, newest first, become others (R402). -/
def Device.onBelow (d : Device) (col : ColId) (f : List Nat → List Nat) : Device :=
  match col with
  | .chip => { d with chip := { d.chip with failedBelow := f d.chip.failedBelow } }
  | .region r => d.onRegion r fun x => { x with failedBelow := f x.failedBelow }
  | .block b => d.onBlock b fun x => { x with failedBelow := f x.failedBelow }
  | .cell _ => d

/-- A source after its Clear (R401): EventCounts and the configuration are kept. -/
def Source.cleared (s : Source) : Source := { s with sticky := false, severe := false, times := [], cycle := none }

/-- One source is cleared, with its entry; of the collectors below, as many as given stay failed (R401, R402). -/
def Device.clearKeeping (d : Device) (col : ColId) (n keep : Nat) (s : Source) : Device :=
  let d := d.onSource col n fun _ => s.cleared
  let d := if isParity col n then d.onBelow col (List.take keep) else d
  d.addLog 4 (sourceCode col n) (d.faultData col s.cleared)

/-- A Clear of a source with an event in this FCLK cycle acts before that event (R403): an only event stays as it is, and of several the
last one counts as the first after the Clear (log entry 17). -/
def Device.clearBefore (d : Device) (col : ColId) (n : Nat) (s : Source) : Device :=
  if s.times.length ≤ 1 then d.addLog 4 (sourceCode col n) (d.faultData col s.cleared)
  else (d.clearKeeping col n 1 { s with count := s.count - 1 }).raise col n

/-- One source is cleared (R401, R403). -/
def Device.clearSource (d : Device) (col : ColId) (n : Nat) : Device :=
  match (d.sources col)[n]? with
  | none => d
  | some s => if d.sameEvent s then d.clearBefore col n s else d.clearKeeping col n 0 s

/-- Named sources of a Clear, in ascending order. -/
def namedSources (col : ColId) (mask : Nat) : List Nat := (List.range (sourceCount col)).filter fun n => bitAt mask n

/-- The die of a block collector has power (R359, R391; log entry 67). -/
def Device.colCheck (d : Device) (col : ColId) : List Check :=
  match col with
  | .block b => [(d.dieOff (blockRegion b), 5, 5)]
  | _ => []

/-- A write to Clear (R401). -/
def specCollectorClear (col : ColId) (mask : Nat) (d : Device) : WSpec :=
  let bad := fun n => isCondition col n && ((d.sources col)[n]?.elim false (·.cause))
  { len := 4
    state := ((namedSources col mask).any bad, 5, 3) :: d.colCheck col
    apply := fun d => ((namedSources col mask).foldl (fun d n => d.clearSource col n) d).refreshMode }

/-- The reaction code contains its collector (R396). -/
def reactionOk (col : ColId) (code : Nat) : Bool :=
  decide (code ≤ 1) || match col with
    | .cell _ => decide (code ≤ 5)
    | .block _ => decide (3 ≤ code ∧ code ≤ 5)
    | .region _ => decide (4 ≤ code ∧ code ≤ 5)
    | .chip => decide (code = 5)

/-- SourceConfig (R396, R397; log entry 64). -/
def specSource (col : ColId) (n v : Nat) (d : Device) : WSpec :=
  let reaction := field v 8 3
  { len := 8
    access := [(isFixed col n, 3, 1)]
    state := d.colCheck col
    value := [inRangeN (field v 16 22) 1 3600000, inRangeN (field v 0 8) 1 255, (decide (6 ≤ reaction), 7, 2),
              (decide (reaction < 6) && !reactionOk col reaction, 7, 1)]
    apply := fun d => (d.onSource col n fun s =>
      { s with threshold := field v 0 8, windowMs := field v 16 22, reaction := reaction }).refreshMode }

/-- SourceConfig as a word (R397). -/
def Source.config (s : Source) : Nat := s.threshold + s.reaction * 2 ^ 8 + s.windowMs * 2 ^ 16

/-- A subindex of a collector (R404, R405): 4 Clear. -/
def colTarget (col : ColId) (sub : Nat) : Target :=
  match col with
  | .chip => chipTarget 0x2110 sub
  | .region r => chipTarget (0x2111 + r.val) sub
  | .block b => chipTarget (0x2118 + b.val) sub
  | .cell c => cellTarget c 0xD sub

/-! ### Collector self-faults (R402) -/

/-- The collector above and its parity source (R402). -/
def parityAbove : ColId → Option (ColId × Nat)
  | .cell c => some (.block (cellBlock c), 4)
  | .block b => some (.region (blockRegion b), 18)
  | .region _ => some (.chip, 11)
  | .chip => none

/-- A collector takes its defaults; its Cause bits show what is present (log entry 67). -/
def Device.resetCollector (d : Device) (col : ColId) : Device :=
  let d := d.onSources col fun l =>
    mapFrom (fun i s => { Source.ofReaction ((colReactions col).getD i 0) with cause := s.cause }) 0 l
  d.onBelow col fun _ => []

/-- A collector has failed, as the one above keeps it. -/
def Device.markFailed (d : Device) (above : ColId) (i : Nat) : Device := d.onBelow above fun l => i :: l.filter (· ≠ i)

/-- The entry that names a failed collector: no rule gives its Level and its Source (log entry 6). -/
def Device.parityEntry (d : Device) (col : ColId) : Device :=
  let n := d.free
  (d.addLog (Config.unstated n % 5) (Config.unstated (n + 1) % 2 ^ 16) (colInstance col)).nextFree.nextFree

/-- A parity error in a collector (R402; log entry 67). -/
def Device.parityError (d : Device) (col : ColId) : Device :=
  if !d.collectorOn col then d
  else
    let d := d.faultFold col (d.covered col)
    let d := (d.resetCollector col).parityEntry col
    match parityAbove col with
    | some (above, n) => ((d.markFailed above (colInstance col)).raise above n).refreshMode
    | none => ({ d with chip := { d.chip with chipParity := true } }).refreshMode

/-! ### FaultSummary and FaultInjection (R406, R409) -/

/-- FaultSummary.Command (R406). -/
def specSummaryCmd (v : Nat) : WSpec :=
  match v with
  | 1 => { len := 1, apply := Device.clearVoid }
  | 2 => { len := 1, apply := fun d => ({ d with chip := { d.chip with chipParity := false } }).refreshMode }
  | _ => { len := 1, value := [codeCheck v 3], apply := id }

/-- Whether the cause of a condition source is present of itself (R394; log entry 65). -/
def Device.realCause (d : Device) : ColId → Nat → Bool
  | .cell c, 1 => d.cells[c].sentinel.tripped
  | .cell c, 2 => d.cells[c].pmuStatus.shortNow
  | .cell c, 3 => d.cells[c].pmuStatus.kelvinNow
  | .block b, 0 => d.blocks[b].refFault
  | .block b, 1 => d.anyExcursion b
  | .block b, 2 => d.anySuspect b
  | .block b, 3 => d.anyReadback b
  | .region r, 11 => !d.drams[regionDram r 0].pllLocked || !d.drams[regionDram r 1].pllLocked
  | .region r, 12 => d.regions[r].railTripped
  | .chip, 0 => !d.modes.pllLocked
  | .chip, 1 => !d.link.ports[0].pllLocked || !d.link.ports[1].pllLocked
  | .chip, 3 => !d.modes.foldinN
  | .chip, 7 => decide (d.report.overTemp ≠ 0)
  | .chip, 8 => d.dieAbove
  | _, _ => false

/-- Events of one source, one in each FCLK cycle (R409; log entry 65). -/
def Device.injectEvents (col : ColId) (n : Nat) : Nat → Device → Device
  | 0, d => d
  | k + 1, d => Device.injectEvents col n k (tick (d.raise col n))

/-- Inject (R409; log entry 65). -/
def Device.inject (d : Device) : Device :=
  match codeSource d.chip.injSource with
  | none => d
  | some (col, n) =>
    let d := if isCondition col n ∧ d.collectorOn col then
        let d := d.onSource col n fun s => { s with cause := true }
        { d with chip := { d.chip with injActive := d.chip.injActive.filter (· ≠ (col, n)) ++ [(col, n)] } }
      else d
    Device.injectEvents col n d.chip.injCount d

/-- The hold after an injected event is over: the cause injected first goes (R409; log entry 65). -/
def Device.injectionEnd (d : Device) : Device :=
  match d.chip.injActive with
  | [] => d
  | (col, n) :: rest =>
    let d := d.onSource col n fun s => { s with cause := d.realCause col n }
    { d with chip := { d.chip with injActive := rest } }

/-- FaultInjection is open in DeviceMode Factory only (R409). -/
def Device.factoryCheck (d : Device) : Check := (!d.modes.factory, 5, 2)

/-- FaultInjection.Source, Count and Hold (R409; log entry 65). -/
def specInject (sub v : Nat) (d : Device) : WSpec :=
  let state := [d.factoryCheck]
  match sub with
  | 1 => { len := 2, state, value := [(decide (codeSource v = none), 7, 1)]
           apply := fun d => { d with chip := { d.chip with injSource := v } } }
  | 2 => { len := 1, state, value := [inRangeN v 1 255], apply := fun d => { d with chip := { d.chip with injCount := v } } }
  | _ => { len := 4, state, value := [inRangeN v 0 1000000], apply := fun d => { d with chip := { d.chip with injHold := v } } }

/-- FaultInjection.Command (R409). -/
def specInjectCmd (v : Nat) (d : Device) : WSpec :=
  let state := [d.factoryCheck]
  match v with
  | 1 => { len := 1, state, apply := Device.inject }
  | 2 => { len := 1, state, apply := fun d => match codeCollector d.chip.injSource with
             | some col => d.parityError col
             | none => d }
  | _ => { len := 1, state, value := [codeCheck v 3], apply := id }

/-! ### The log ring (R411, R412, R414) -/

/-- A log entry as a word of 128 bits (R410). -/
def LogEntry.word (e : LogEntry) : Nat :=
  e.data + e.source * 2 ^ 44 + e.level * 2 ^ 60 + b2n e.disciplined * 2 ^ 63 + e.time * 2 ^ 64

/-- An entry as it is stored (R253, R410). -/
def LogEntry.store (e : LogEntry) : LogSlot := { word := BitVec.ofNat 128 e.word, chk := BitVec.ofNat 16 (protect 2 noFold (e.word % 2 ^ 128)) }

/-- The check of a stored entry as it is read (R252, R410). -/
def LogSlot.check (x : LogSlot) : Recovered := recover 2 noFold x.word.toNat x.chk.toNat

/-- What a read of a stored entry gives: the entry, corrected where that is needed, or Level Damaged and nothing else (R410). -/
def LogSlot.read (x : LogSlot) : Nat := if x.check.ok then x.check.data else 5 * 2 ^ 60

/-- An entry is written to the ring (R411; log entry 66). -/
def Log.write (l : Log) (e : LogEntry) : Log :=
  { l with slots := putKey (l.written % Config.logSlots) e.store l.slots, written := l.written + 1
           held := min (l.written + 1) Config.logSlots
           overwritten := if l.written < Config.logSlots then l.overwritten else l.overwritten + 1 }

/-- The Keeper takes one entry of the queue (R411, R412; log entry 66). -/
def Device.logStep (d : Device) : Device :=
  match d.logQueue with
  | [] => d
  | e :: rest =>
    let d := { d with log := d.log.write e, logQueue := rest }
    if d.logSkipped = 0 then d
    else ({ d with logSkipped := 0 }).addNote 0 0xA d.logSkipped

/-- LogControl.Command Clear (R414; log entry 66). -/
def Device.clearLog (d : Device) : Device :=
  let e : LogEntry := { time := d.now, disciplined := d.disciplined, level := 0, source := noteCode 0 9, data := 0 }
  let l : Log := { lastClear := d.now }
  { d with log := l.write e }

/-- LogControl.Command (R414). -/
def specLogCmd (v : Nat) : WSpec :=
  match v with
  | 1 => { len := 1, apply := Device.clearLog }
  | _ => { len := 1, value := [codeCheck v 2], apply := id }

/-! ### The commands -/

/-- COLLECTOR_CLEAR (R401). -/
def execCollectorClear (h : Hdr) (col : ColId) (w : Data) (s : State) : Host.Outcome State Fault Refusal :=
  onDev s fun d => d.writeReg h (colTarget col 4) w fun _ => specCollectorClear col w.val
/-- COLLECTOR_PARITY_ERROR (R402). -/
def execCollectorParityError (col : ColId) (s : State) : Host.Outcome State Fault Refusal := onDev s fun d => d.parityError col
/-- CLEAR_BALANCE_VOID (R406). -/
def execClearBalanceVoid (h : Hdr) (s : State) : Host.Outcome State Fault Refusal :=
  onDev s fun d => d.writeCmd h (chipTarget 0x2100 7) 1 fun _ _ => specSummaryCmd 1
/-- CLEAR_CHIP_PARITY (R402). -/
def execClearChipParity (h : Hdr) (s : State) : Host.Outcome State Fault Refusal :=
  onDev s fun d => d.writeCmd h (chipTarget 0x2100 7) 2 fun _ _ => specSummaryCmd 2
/-- INJECT (R409). -/
def execInject (h : Hdr) (s : State) : Host.Outcome State Fault Refusal :=
  onDev s fun d => d.writeCmd h (chipTarget 0x2190 4) 1 fun _ => specInjectCmd 1
/-- INJECT_PARITY (R409). -/
def execInjectParity (h : Hdr) (s : State) : Host.Outcome State Fault Refusal :=
  onDev s fun d => d.writeCmd h (chipTarget 0x2190 4) 2 fun _ => specInjectCmd 2
/-- INJECTION_HOLD_EXPIRY (R409). -/
def execInjectionHoldExpiry (s : State) : Host.Outcome State Fault Refusal := onDev s Device.injectionEnd
/-- LOG_ENTRY_WRITE (R411): the Keeper runs as long as VKEEP is there. -/
def execLogEntryWrite (s : State) : Host.Outcome State Fault Refusal :=
  onDev s fun d => if d.modes.vkeep then d.logStep else d
/-- LOG_CLEAR (R414). -/
def execLogClear (h : Hdr) (s : State) : Host.Outcome State Fault Refusal :=
  onDev s fun d => d.writeCmd h (chipTarget 0x2180 1) 1 fun _ _ => specLogCmd 1

end Sys2Proof.Machine
end

