-- ==== Sys2Proof/Machine/Program.lean ====
section
/-!
DEFINITION. Sequence programs: the fields of an instruction, the steps of a path, and the prefetcher's walk of the predicted
path (R63 to R68, R73, R83).
-/
namespace Sys2Proof.Machine

/-! ### Instructions (R66, R67) -/

/-- A field of an instruction. -/
def ifield (w : BitVec 128) (lo n : Nat) : Nat := field w.toNat lo n

/-- The opcode; none for a reserved one (R67). -/
def seqOp (w : BitVec 128) : Option SeqOp :=
  match ifield w 124 4 with
  | 0 => some .halt
  | 1 => some .play
  | 2 => some .repeat
  | 3 => some .loop
  | 4 => some .endloop
  | 5 => some .matchOp
  | 6 => some .jump
  | 7 => some .branch
  | 8 => some .call
  | 9 => some .ret
  | 10 => some .wait
  | 11 => some .signal
  | _ => none

/-- TSet. -/
def iTset (w : BitVec 128) : Nat := ifield w 118 6
/-- Hint: the taken path is prefetched. -/
def iHint (w : BitVec 128) : Bool := bitAt w.toNat 117
/-- MaskSel. -/
def iMask (w : BitVec 128) : Nat := ifield w 112 3
/-- Cond. -/
def iCond (w : BitVec 128) : Nat := ifield w 108 4
/-- Channel. -/
def iChan (w : BitVec 128) : WaggleIx := ⟨ifield w 102 6, by simp [ifield, field]; omega⟩
/-- Count. -/
def iCount (w : BitVec 128) : Nat := ifield w 64 32
/-- MatchLength. -/
def iMatch (w : BitVec 128) : Nat := ifield w 48 16
/-- Target. -/
def iTarget (w : BitVec 128) : Nat := ifield w 32 14
/-- Address. -/
def iAddr (w : BitVec 128) : Nat := ifield w 0 32
/-- An address in the anchored area (R68). -/
def isAnchored (a : Nat) : Bool := bitAt a 31
/-- The entry of the anchored area (R68). -/
def anchorEntry (a : Nat) : Nat := field a 0 19

/-- The number of vectors of the segment of a vector-producing instruction. -/
def iLength (w : BitVec 128) : Nat :=
  match seqOp w with
  | some .play => iCount w
  | some .matchOp => iMatch w
  | _ => 1

/-- An instruction beyond the program reads as HALT (R64). -/
def fetchInstr (prog : List (BitVec 128)) (pc : Nat) : BitVec 128 := prog.getD pc 0

/-- The program a region runs, and where it starts: region A's in coupled operation (R27; log entry 38). -/
def Device.leader (d : Device) (r : RegionIx) : RegionIx := if d.modes.coupled then 0 else r
/-- The program of a region's run. -/
def Device.prog (d : Device) (r : RegionIx) : List (BitVec 128) := d.regions[d.leader r].program

/-! ### Steps along a path (R73) -/

/-- ENDLOOP (R73). -/
def Cursor.endLoop (c : Cursor) : Cursor :=
  match c.loops with
  | [] => { c with pc := c.pc + 1 }
  | (start, left) :: rest =>
    if 1 < left then { c with pc := start, loops := (start, left - 1) :: rest } else { c with pc := c.pc + 1, loops := rest }

/-- RETURN (R73). -/
def Cursor.ret (c : Cursor) : Cursor :=
  match c.calls with
  | [] => { c with pc := c.pc + 1 }
  | a :: rest => { c with pc := a, calls := rest }

/-- The next position past an instruction that is no conditional transfer; `taken` decides one that is. -/
def Cursor.past (c : Cursor) (w : BitVec 128) (taken : Bool) : Cursor :=
  match seqOp w with
  | some .loop => { c with pc := c.pc + 1, loops := (c.pc + 1, iCount w) :: c.loops }
  | some .endloop => c.endLoop
  | some .jump => { c with pc := iTarget w }
  | some .call => { c with pc := iTarget w, calls := (c.pc + 1) :: c.calls }
  | some .ret => c.ret
  | _ => if taken then { c with pc := iTarget w } else { c with pc := c.pc + 1 }

/-! ### The prefetcher (R83) -/

/-- PLAY or REPEAT of DRAM vectors. -/
def fetches (w : BitVec 128) : Bool :=
  (decide (seqOp w = some .play) || decide (seqOp w = some .repeat)) && !isAnchored (iAddr w)

/-- The predicted path past an instruction: Hint for a BRANCH, exit by match or event for MATCH and WAIT (R83). -/
def Cursor.predicted (c : Cursor) (w : BitVec 128) : Cursor := c.past w (decide (seqOp w = some .branch) && iHint w)

/-- A walk of the prefetcher along the predicted path (log entry 13): where it is, the loops of which a whole iteration is being
passed without a fetch, and a position kept to find out a path that comes back to itself. -/
structure PathWalk where
  cur : Cursor
  dry : List Nat := []
  mark : Cursor
  steps : Nat := 0
  limit : Nat := 1

/-- The walk one instruction further. The iterations of a loop are alike: after one that fetched nothing, the rest are passed at
once. -/
def Cursor.along (c : Cursor) (w : BitVec 128) (dry : List Nat) : Cursor × List Nat :=
  match seqOp w, c.loops with
  | some .endloop, (start, left) :: rest =>
    if 1 < left ∧ dry.contains start then ({ c with pc := c.pc + 1, loops := rest }, dry)
    else (c.predicted w, if dry.contains start then dry else start :: dry)
  | some .loop, _ => (c.predicted w, if dry.contains (c.pc + 1) then dry else (c.pc + 1) :: dry)
  | _, _ => (c.predicted w, dry)

/-- Where the predicted path meets its next instruction that fetches; none where it meets HALT first, or goes round for ever
without one (log entry 13). The first argument bounds the walk, as no program's paths do. -/
def Cursor.seek (prog : List (BitVec 128)) : Nat → PathWalk → Option Cursor
  | 0, _ => none
  | n + 1, k =>
    let w := fetchInstr prog k.cur.pc
    if fetches w then some k.cur
    else if seqOp w = some .halt ∨ seqOp w = none then none
    else
      let (c, dry) := k.cur.along w k.dry
      if c = k.mark then none
      else if k.steps = k.limit then Cursor.seek prog n { cur := c, dry, mark := c, steps := 0, limit := 2 * k.limit }
      else Cursor.seek prog n { k with cur := c, dry, steps := k.steps + 1 }

/-- Instructions passed in one walk at most: more than any program's paths have before they fetch, halt or repeat. -/
def seekFuel : Nat := 2 ^ 64

/-- The prefetcher stands at the next instruction that fetches, or fetches no more. -/
def Prefetch.seek (prog : List (BitVec 128)) (f : Prefetch) : Prefetch :=
  match Cursor.seek prog seekFuel { cur := f.cur, mark := f.cur } with
  | some c => if c = f.cur then f else { f with cur := c, offset := 0 }
  | none => { f with stopped := true }

/-- The prefetcher starts at a place of the program (R83, R84). -/
def Prefetch.start (prog : List (BitVec 128)) (c : Cursor) (offset : Nat) : Prefetch := Prefetch.seek prog { cur := c, offset := offset }

/-- The vectors of the next burst to fetch, by address (R83); none when there is nothing to fetch. -/
def Prefetch.next (prog : List (BitVec 128)) (f : Prefetch) : List Nat :=
  let w := fetchInstr prog f.cur.pc
  if f.stopped || !fetches w then []
  else
    let a := iAddr w + f.offset
    if seqOp w = some .play ∧ a % 2 = 0 ∧ f.offset + 1 < iCount w then [a, a + 1] else [a]

/-- The burst of the next vectors has been read: the prefetcher goes on behind them. -/
def Prefetch.fetched (prog : List (BitVec 128)) (f : Prefetch) (entries : List RingEntry) : Prefetch :=
  let w := fetchInstr prog f.cur.pc
  let f := { f with returned := f.returned ++ [entries], offset := f.offset + entries.length }
  if f.offset < iLength w then f
  else Prefetch.seek prog { f with cur := f.cur.predicted w, offset := 0 }

/-- Entries of the stream ring (R69). -/
def Region.ringEntries (x : Region) : Nat := Config.combEntries - x.anchored
/-- Entries in the ring or on their way into it. -/
def Prefetch.occupied (f : Prefetch) : Nat := f.ring.length + (f.returned.map List.length).sum
/-- The ring has room for a burst. -/
def Region.ringRoom (x : Region) : Bool := decide (x.fetch.occupied + 2 ≤ x.ringEntries)
/-- Nothing more will enter the ring: the predicted path has no DRAM vector left before HALT, or ever (R84; log entry 13). -/
def Prefetch.exhausted (f : Prefetch) : Bool := f.stopped && decide (f.returned = [])
/-- The ring is full, or holds all that the predicted path has before HALT, or ever. Every transfer has a prediction (R83), so none
stops the prefetcher before that (R97; log entry 13). -/
def Region.prefilled (x : Region) : Bool := x.fetch.exhausted || (!x.ringRoom && decide (x.fetch.returned = []))

/-- RestartDepth in entries; region A's in coupled operation (R84, R86). -/
def Device.refill (d : Device) (r : RegionIx) : Nat := 256 * d.regions[d.leader r].restartDepth
/-- The ring holds min(RestartDepth, D) entries (R84, R85). -/
def Device.refilled (d : Device) (r : RegionIx) : Bool :=
  d.regions[r].fetch.exhausted || decide (d.refill r ≤ d.regions[r].fetch.ring.length)

/-- The states in which a run's prefetcher works. -/
def Run.fetching (x : Run) : Bool :=
  match x.state with
  | .prefill | .armed | .running | .holding => true
  | _ => false

end Sys2Proof.Machine
end

