-- ==== Sys2Proof/Machine/Training.lean ====
section
/-!
DEFINITION. What DRAM training makes of its sweeps: eyes, the settings it selects, and whether every lane has one (R269, R270, R273,
R277).
-/
namespace Sys2Proof.Machine

/-- The widest run of passing settings: its first setting and its width; the first of several (R269; log entry 51). -/
def widestRun (passes : Nat) : Nat × Nat :=
  let step := fun (x : Nat × Nat × Nat) (k : Nat) =>
    let run := if passes.testBit k then x.1 + 1 else 0
    if x.2.2 < run then (run, k + 1 - run, run) else (run, x.2)
  ((List.range 128).foldl step (0, 0, 0)).2

/-- The centre of a run; of two middle settings the lower (log entry 51). -/
def runCentre (x : Nat × Nat) : Nat := x.1 + (x.2 - 1) / 2

/-- The settings within 16 steps of one, which a retraining sweeps (R270). -/
def nearSettings (k : Nat) : Nat := ((List.range 128).filter fun j => decide (k ≤ j + 16 ∧ j ≤ k + 16)).foldl (fun m j => m + 2 ^ j) 0

/-- The delays of a set of lanes, read sweep first. -/
def LaneSet.delays (x : LaneSet) : List Nat := x.read ++ x.write

/-- What passes in each of the twenty sweeps: all 128 settings of a full training, or those around the present ones. -/
def swept (t : TrainResult) (around : Option LaneSet) : List Nat :=
  match around with
  | none => t.passes
  | some x => (t.passes.zip x.delays).map fun (m, k) => m &&& nearSettings k

/-- What a training makes of its sweeps. -/
structure Trained where
  ok : Bool
  lanes : LaneSet
  eyeRead : Nat
  eyeWrite : Nat
  worst : Nat
  deriving DecidableEq, Repr

/-- The place of the least entry, the first of several (log entry 51). -/
def leastAt (l : List Nat) : Nat := (List.range l.length).foldl (fun b i => if l.getD i 0 < l.getD b 0 then i else b) 0

/-- A training selects the centre of the widest run of each lane and the middle of its reference range; a lane needs an eye of 16
steps (R269). A retraining sweeps around the settings it is given (R270). -/
def trainedBy (t : TrainResult) (around : Option LaneSet) : Trained :=
  let runs := (swept t around).map widestRun
  let eyes := runs.map (·.2)
  let delays := runs.map runCentre
  { ok := (t.levelled || around.isSome) && eyes.all fun e => decide (16 ≤ e)
    lanes := { read := delays.take 10, write := delays.drop 10, refs := t.refs.map fun x => (x.1 + x.2) / 2 }
    eyeRead := (eyes.take 10).foldl min 0xFFFF
    eyeWrite := (eyes.drop 10).foldl min 0xFFFF
    worst := leastAt (((eyes.take 10).zip (eyes.drop 10)).map fun (a, b) => min a b) }

/-- Settings that were learnt still pass: the read training pattern at each lane's delay (R273). -/
def verifies (t : TrainResult) (x : LaneSet) : Bool := (t.passes.zip x.read).all fun (m, k) => m.testBit k

/-- LaneSettings as the object shows them: for each lane the read delay and the write delay, 16 bits each (R277). -/
def LaneSet.word (x : LaneSet) : Nat :=
  ((List.range 10).map fun i => x.read.getD i 0 % 65536 * 2 ^ (32 * i) + x.write.getD i 0 % 65536 * 2 ^ (32 * i + 16)).sum

/-- What a channel has learnt at the rate of a shadow set (R275). -/
def DramChan.learnt (c : DramChan) (shadow : Nat) : Option LaneSet := if shadow = 0 then c.learntA else c.learntB
/-- A channel learns settings at the rate of a shadow set, or they are discarded. -/
def DramChan.setLearnt (c : DramChan) (shadow : Nat) (x : Option LaneSet) : DramChan :=
  if shadow = 0 then { c with learntA := x } else { c with learntB := x }

end Sys2Proof.Machine
end

