-- ==== Sys2Proof/Machine/Memory.lean ====
section
/-!
DEFINITION. DRAM as it is read and written: layout of a region over its channels, bursts with D72 and tag, checked reads,
read-merge-writes, training and the loss of a channel (R251 to R261, R265, R270, R271).
-/
namespace Sys2Proof.Machine

/-! ### Layout (R258 to R260, R271, R274) -/

/-- The channels of a region that are in service. -/
def Dram.channels (m : Dram) : Nat := b2n (bitAt m.inService 0) + b2n (bitAt m.inService 1)
/-- The region peak, bursts per µs (R262). -/
def Dram.peak (m : Dram) : Nat := 2 * m.channels * m.dataRate / 16
/-- The token rate of a port, bursts per µs (R262). -/
def Dram.rate (m : Dram) (x : Regulator) : Nat := x.share * m.peak / 1000
/-- Banks of a subchannel rank (R260). -/
def Dram.banks (m : Dram) : Nat := if m.width = 0 then 32 else 16
/-- Rows of a bank (R260). -/
def Dram.rows (m : Dram) : Nat := if m.density = 0 then 65536 else if m.density = 1 then 98304 else 131072
/-- Data bytes of one channel (R260). -/
def Dram.channelBytes (m : Dram) : Nat := 2 * m.ranks * (m.rows * m.banks * 64 * 64)
/-- ServiceBytes (R274). -/
def Dram.service (m : Dram) : Nat := if m.capacity = 0 then 0 else Config.serviceBytes
/-- Region-vectors of the vector space (R65, R258). -/
def Dram.vectorLimit (m : Dram) : Nat := m.vectorBytes / 32

/-- The areas on the channels in service: the service area first, then the fail area, then the vector space (R271; log
entry 51). -/
def Dram.layOut (m : Dram) : Dram :=
  let m := { m with capacity := m.channels * m.channelBytes }
  let fail := min m.failConfigured (m.capacity - m.service)
  { m with failBytes := fail, vectorBytes := min m.vectorConfigured (m.capacity - m.service - fail) }

/-- The sizes that discovery gives (R274). -/
def Dram.defaultLayout (m : Dram) : Dram :=
  let m := { m with capacity := m.channels * m.channelBytes }
  let rest := m.capacity - m.service
  let v := min (2 ^ 36) (rest / 2 / Config.mib * Config.mib)
  { m with vectorConfigured := v, failConfigured := rest - v, vectorBytes := v, failBytes := rest - v }

/-- Epoch increments (R261). -/
def Dram.nextEpoch (m : Dram) : Dram := { m with epoch := (m.epoch + 1) % 65536 }

/-- Channel of the region and burst index within it that hold a region burst (R259). -/
def Dram.place (m : Dram) (g : Nat) : Option (Nat × Nat) :=
  match bitAt m.inService 0, bitAt m.inService 1 with
  | true, true => some (g % 2, g / 2)
  | true, false => some (0, g)
  | false, true => some (1, g)
  | false, false => none

/-- Where a burst of a subchannel lies (R260). -/
structure DramPlace where
  rank : Nat
  bank : Nat
  row : Nat
  /-- The burst column, 0 to 63. -/
  col : Nat
  deriving DecidableEq, Repr

/-- The DRAM column address (R260). -/
def DramPlace.column (x : DramPlace) : Nat := x.col * 16
/-- Bank groups of a device (R260). -/
def Dram.groups (m : Dram) : Nat := if m.width = 0 then 8 else 4
/-- Bank group and bank address of a bank (R260). -/
def Dram.bankGroup (m : Dram) (bank : Nat) : Nat := bank % m.groups
def Dram.bankAddress (m : Dram) (bank : Nat) : Nat := bank / m.groups

/-- Rank, bank, row and burst column of burst `u` of a subchannel (R260). -/
def Dram.location (m : Dram) (u : Nat) : DramPlace :=
  match m.addressMap with
  | 0 => { rank := u / 64 / m.banks / m.rows, bank := u / 64 % m.banks, row := u / 64 / m.banks % m.rows, col := u % 64 }
  | 1 => { rank := u / 64 / m.rows / m.banks, bank := u / 64 / m.rows % m.banks, row := u / 64 % m.rows, col := u % 64 }
  | _ => { rank := u / m.banks / 64 / m.rows, bank := u % m.banks, row := u / m.banks / 64 % m.rows, col := u / m.banks % 64 }

/-- An access opens its row; with PageIdle 0 the row is closed again (R265; log entry 50). -/
def DramChan.access (c : DramChan) (m : Dram) (q : Nat) : DramChan :=
  let x := m.location (q / 2)
  let bank := x.rank * m.banks + x.bank
  let others := c.openRows.filter fun o => decide (¬(o.1 = q % 2 ∧ o.2.1 = bank))
  { c with openRows := if m.pageIdle = 0 then others else (q % 2, bank, x.row) :: others }

/-! ### Bursts (R252 to R256) -/

/-- What one read of a burst gives: its data, the codewords corrected, the first step of R256 that failed (0 none), and
whether the tag names the burst in the present epoch. -/
structure BurstRead where
  data : Nat := 0
  corrected : Nat := 0
  step : Nat := 0
  tagOk : Bool := false
  deriving DecidableEq, Repr

/-- The fold word of a codeword of DRAM (R253). -/
def dramFold (n q w : Nat) : Nat := n * 2 ^ 33 + q * 8 + w
/-- The frame tag (R255). -/
def frameTag (n q epoch : Nat) : Nat := epoch * 2 ^ 32 + n * 2 ^ 30 + q
/-- The bytes over which the CRC of a tag runs (R255). -/
def tagCrc (data chk frame : Nat) : Nat := crc16 (bytesOf 64 data ++ bytesOf 8 chk ++ (bytesOf 6 frame).reverse)

/-- A burst as the controller writes it (R254, R255). -/
def makeBurst (n q epoch data : Nat) : Burst :=
  let chk := protect 8 (dramFold n q) data
  let frame := frameTag n q epoch
  { data := BitVec.ofNat 512 data, chk := BitVec.ofNat 64 chk, tag := BitVec.ofNat 64 (tagCrc data chk frame * 2 ^ 48 + frame) }

/-- The check of a burst that was read (R256; log entry 5). -/
def checkBurst (n q epoch data chk tag : Nat) : BurstRead :=
  let w := recover 8 (dramFold n q) data chk
  let tagOk := decide (field tag 0 48 = frameTag n q epoch)
  if !w.ok then { corrected := w.corrected, step := 1, tagOk }
  else
    let step := if tagCrc w.data w.chk (field tag 0 48) ≠ field tag 48 16 then 2 else if tagOk then 0 else 3
    { data := w.data, corrected := w.corrected, step, tagOk }

/-- One read of a region burst under errors that strike it; a burst never written fails the comparison of its tag
(R257; log entry 5). -/
def Dram.readOnce (m : Dram) (r : RegionIx) (g : Nat) (e : ErrPat) : BurstRead :=
  match m.place g with
  | none => { step := 3 }
  | some (c, q) =>
    match getKey (2 * q + c) m.bursts with
    | none => { step := 3 }
    | some b => checkBurst (2 * r.val + c) q m.epoch (b.data ^^^ e.data).toNat (b.chk ^^^ e.chk).toNat (b.tag ^^^ e.tag).toNat

/-- No error strikes. -/
def noErrors : ErrPat := { data := 0, chk := 0, tag := 0 }

/-- Bytes of `old` with those of `new` whose bit of a mask is set. -/
def mergeBytes (mask : Nat) : Nat → Nat → Nat → Nat
  | 0, _, _ => 0
  | n + 1, old, new => (if mask % 2 = 1 then new % 256 else old % 256) + 256 * mergeBytes (mask / 2) n (old / 256) (new / 256)

/-- A burst with some bytes replaced. -/
def DramWrite.onto (w : DramWrite) (old : Nat) : Nat := mergeBytes w.mask.toNat 64 old w.data.toNat

/-- The data a burst will hold once every write on its way is done (R99). -/
def Dram.latest (m : Dram) (r : RegionIx) (g : Nat) : Nat :=
  (m.writes.filter fun w => w.burst = g).foldl (fun v w => w.onto v) (m.readOnce r g noErrors).data

/-! ### The canonical form of what is kept by number -/

/-- Keys are listed in strictly rising order. -/
def rising {α : Type} : List (Nat × α) → Bool
  | (j, _) :: (k, x) :: rest => decide (j < k) && rising ((k, x) :: rest)
  | _ => true

/-- An entry of the Comb as the part writes it, with the check bits it computes (R36, R71). -/
def CombEntry.make (e : Nat) (data : BitVec 256) : CombEntry :=
  { data, chk := BitVec.ofNat 32 (protect 4 (combFold e) data.toNat) }

/-- What an entry of the anchored area holds; one that is not listed holds 0 with its check bits (R70). -/
def Region.combAt (x : Region) (e : Nat) : CombEntry := (getKey e x.combData).getD (CombEntry.make e 0)

/-- The memories of a region stand in their one form: DRAM bursts by place, and the entries of the Comb's anchored area that are
not as a cleared area holds them. A burst that is not listed has never been written (R257, R70; log entry 5). -/
def Region.memoryWf (x : Region) : Bool :=
  rising x.dram.bursts && rising x.combData && x.combData.all fun e => decide (e.2 ≠ CombEntry.make e.1 0)

/-- The memories that the model keeps as lists by number have one form: those of both regions, the slots of the log ring, and what
microcode has written to units. A slot or a unit that is not listed has never been written (log entry 5). -/
def Memory.wf (d : Device) : Bool :=
  d.regions[(0 : Fin 2)].memoryWf && d.regions[(1 : Fin 2)].memoryWf && rising d.log.slots && rising d.ryu.unitWrites

/-! ### Retraining (R270) -/

/-- A channel needs retraining: for its temperature by `delta` sixteenths of a degree, or for its errors. -/
def Device.needsRetrain (d : Device) (n : DramIx) (delta : Option Nat) : Device :=
  let r := dramRegion n
  let x := d.regions[r]
  match d.drams[n].state with
  | .trained | .retrainPending =>
    let later := (decide (x.mode = .run) && (match delta with | some t => decide (t ≤ 320) | none => false)) ||
      decide (x.mode = .fold) || decide (4 ≤ d.shed.stage) || decide (x.dram.state ≠ .active)
    d.onDram n fun c => if later then { c with state := .retrainPending } else { c with state := .training, full := false }
  | _ => d

/-- A new PHY temperature (R270, R277). -/
def Device.phyTemp (d : Device) (n : DramIx) (t : Int) : Device :=
  let d := d.onDram n fun c => { c with temp := t }
  let delta := (t - d.drams[n].lastTemp).natAbs
  if 160 < delta then d.needsRetrain n (some delta) else d

/-! ### Checked reads and writes (R256, R257) -/

/-- Errors of a channel are counted. -/
def Device.onErrors (d : Device) (n : DramIx) (f : DramErrors → DramErrors) : Device :=
  d.onDram n fun c => { c with errors := f c.errors }

/-- Corrected codewords of one read: counted, raised, and held against RetrainErrorLimit (R256, R270). -/
def Device.countCorrected (d : Device) (n : DramIx) (k : Nat) (loud : Bool) : Device :=
  if k = 0 then d
  else
    let now := d.now
    let d := d.onDram n fun c =>
      { c with errors := { c.errors with corrected := c.errors.corrected + k }
               correctedTimes := List.replicate k now ++ c.correctedTimes.filter fun t => now ≤ t + 1000000000 }
    let d := if loud then d.raise (.region (dramRegion n)) 7 else d
    if d.regions[dramRegion n].dram.retrainLimit < d.drams[n].correctedTimes.length then d.needsRetrain n none else d

/-- A final failure counts by the step that the second read failed (R256). -/
def DramErrors.fail (e : DramErrors) (step : Nat) : DramErrors :=
  match step with
  | 1 => { e with uncorrectable := e.uncorrectable + 1 }
  | 2 => { e with crcFail := e.crcFail + 1 }
  | _ => { e with tagMismatch := e.tagMismatch + 1 }

/-- A region burst is read, and read once more if the first read fails (R256): the outcome that counts. `loud` says that
collector sources are raised, `integrity` that a final failure raises DramIntegrity (log entry 5). -/
def Device.readBurst (d : Device) (r : RegionIx) (g : Nat) (e1 e2 : ErrPat) (loud integrity : Bool) : Device × BurstRead :=
  match d.regions[r].dram.place g with
  | none => (d, { step := 3 })
  | some (c, q) =>
    let n := regionDram r c
    let d := d.onDram n fun x => x.access d.regions[r].dram q
    let a := d.regions[r].dram.readOnce r g e1
    let d := d.countCorrected n a.corrected loud
    if a.step = 0 then (d, a)
    else
      let b := d.regions[r].dram.readOnce r g e2
      let d := d.countCorrected n b.corrected loud
      if b.step = 0 then (d.onErrors n fun e => { e with recovered := e.recovered + 1 }, b)
      else
        let d := d.onErrors n fun e => e.fail b.step
        (if integrity then d.raise (.region r) 8 else d, b)

/-- A burst is stored with a fresh tag (log entry 5). -/
def Device.storeBurst (d : Device) (r : RegionIx) (g data : Nat) : Device :=
  match d.regions[r].dram.place g with
  | none => d
  | some (c, q) =>
    (d.onDram (regionDram r c) fun x => x.access d.regions[r].dram q).onMem r fun m =>
      { m with bursts := putKey (2 * q + c) (makeBurst (2 * r.val + c) q m.epoch data) m.bursts }

/-- A burst write reaches the devices, by read-merge-write where it is partial (R257). -/
def Device.writeBurst (d : Device) (r : RegionIx) (w : DramWrite) (e1 e2 : ErrPat) : Device :=
  match d.regions[r].dram.place w.burst with
  | none => d
  | some (c, _) =>
    if w.mask = BitVec.allOnes 64 then d.storeBurst r w.burst w.data.toNat
    else
      let (d, b) := d.readBurst r w.burst e1 e2 true false
      if b.step = 0 then d.storeBurst r w.burst (w.onto b.data)
      else
        let d := d.onErrors (regionDram r c) fun e => { e with mergeZeroed := e.mergeZeroed + 1 }
        let d := if b.tagOk then d.raise (.region r) 8 else d
        d.storeBurst r w.burst (w.onto 0)

/-- Bursts that bytes at a region address touch: the first holds what lies before its end (R254). -/
def splitWrite (addr value len : Nat) : List DramWrite :=
  if len = 0 then []
  else (List.range ((addr + len - 1) / 64 - addr / 64 + 1)).map fun i =>
    let g := addr / 64 + i
    if i = 0 then
      let s := addr % 64
      { burst := g, data := BitVec.ofNat 512 (value * 2 ^ (8 * s)), mask := BitVec.ofNat 64 ((2 ^ (min len (64 - s)) - 1) * 2 ^ s) }
    else
      let skip := 64 * g - addr
      { burst := g, data := BitVec.ofNat 512 (value / 2 ^ (8 * skip)), mask := BitVec.ofNat 64 (2 ^ (min 64 (len - skip)) - 1) }

/-- A burst whose 640 bits are a free value. -/
def openBurst (v : BitVec 640) : Burst :=
  { data := v.extractLsb' 0 512, chk := v.extractLsb' 512 64, tag := v.extractLsb' 576 64 }

/-- Every burst of a region holds undefined contents (R437). -/
def Device.loseAll (d : Device) (r : RegionIx) : Device :=
  let n := d.free
  (d.onMem r fun m => { m with bursts := m.bursts.map fun (k, _) => (k, openBurst (Config.lostBurst n k)) }).nextFree

/-! ### The loss of a channel (R271) -/

/-- The region whose DRAM a DOMAIN object lies in (R36, R150). -/
def objectRegion (idx : Nat) : Option RegionIx :=
  if idx = 0x5000 ∨ idx = 0x5030 then some 0 else if idx = 0x5001 ∨ idx = 0x5031 then some 1 else none

/-- A stall Fold (R85, R97, R271): held until the region leaves Fold (R400); its entry and its Notify (R331, R412). -/
def Device.stallFold (d : Device) (r : RegionIx) : Device :=
  let cycle := d.runCycle (some r)
  let d := (d.onRegion r fun x => { x with heldByStall := true }).addLog 3 (noteCode r.val 0xE) 4
  let d := d.notify 1 3 (noteCode r.val 0xE) 4 cycle
  (d.foldRegion 4 r).refreshMode

/-- Every port-H write of a region is done or gone: no fence and no read waits for one (R267, R268). -/
def Device.noWrites (d : Device) (r : RegionIx) : Device :=
  let d := d.onMem r fun m => { m with writes := [] }
  { d with fences := d.fences.map fun (f : Fence) => if r = 0 then { f with waitA := 0 } else { f with waitB := 0 }
           link := { d.link with sessions := vmap (fun _ x =>
             { x with transfer := x.transfer.map fun t => if objectRegion t.idx = some r then { t with behind := 0 } else t }) d.link.sessions } }

/-- The region's channels change: Epoch increments and the areas are laid out anew (R261, R271). -/
def Device.relayOut (d : Device) (r : RegionIx) (inService : Nat) : Device :=
  let d := d.onMem r fun m =>
    let m := ({ m with inService := inService } : Dram).layOut.nextEpoch
    { m with rewritten := [] }
  (d.noWrites r).invalidate r

/-- Bit of a channel among its region's. -/
def chanBit (n : DramIx) : Nat := 2 ^ (n.val % 2)
/-- A channel is in service. -/
def Device.inService (d : Device) (n : DramIx) : Bool := bitAt d.regions[dramRegion n].dram.inService (n.val % 2)

/-- A channel has no working setting (R271; log entry 51). -/
def Device.channelLost (d : Device) (n : DramIx) : Device :=
  let r := dramRegion n
  let running := d.regions[r].run.inProgress
  let d := d.onDram n fun c => { c with state := .outOfService, openRows := [], lastFailed := true }
  let d := (d.raise (.region r) 9).relayOut r (d.regions[r].dram.inService &&& (3 - chanBit n))
  if running then d.stallFold r else d

/-! ### Training results (R269, R270, R277) -/

/-- A successful training is recorded, and learnt at the rate of a shadow set (R275). -/
def DramChan.record (c : DramChan) (x : Trained) (temp : Int) (shadow now : Nat) (disciplined : Bool) : DramChan :=
  ({ c with state := .trained, lastTime := now, lastTemp := temp, temp := temp
            trainings := satAdd (maxU 32) c.trainings 1
            eyeRead := x.eyeRead, eyeWrite := x.eyeWrite, worst := x.worst, lanes := x.lanes, disciplined, lastFailed := false
            full := false, correctedTimes := [] } : DramChan).setLearnt shadow (some x.lanes)

/-- What the training under way makes of its sweeps: a full one sweeps everything, a retraining around the present settings
(R269, R270). -/
def DramChan.outcome (c : DramChan) (t : TrainResult) : Trained := trainedBy t (if c.full then none else some c.lanes)

/-- A training or retraining ends (R270, R271; log entry 51). -/
def Device.trainingEnd (d : Device) (n : DramIx) (t : TrainResult) : Device :=
  let r := dramRegion n
  let c := d.drams[n]
  let x := c.outcome t
  let out := !d.inService n
  let now := d.now
  let disc := d.disciplined
  if c.state ≠ .training then d
  else if x.ok then
    let d := d.onDram n fun c => c.record x t.temp d.regions[r].dram.activeShadow now disc
    if !out then d
    else if d.regions[r].mode = .configure ∨ d.regions[r].mode = .ready then
      d.relayOut r (d.regions[r].dram.inService ||| chanBit n)
    else d.onDram n fun c => { c with state := .outOfService }
  else if out then d.onDram n fun c => { c with state := .outOfService, lastFailed := true }
  else if !c.full then d.onDram n fun c => { c with full := true, lastFailed := true }
  else d.channelLost n

end Sys2Proof.Machine
end

