-- ==== Sys2Proof/Machine/Dram.lean ====
section
/-!
DEFINITION. The commands of the DRAM controller: burst reads and writes, refresh, tokens, retraining, self-refresh, fences,
frequency changes and its objects, and discovery (R247 to R280).
-/
namespace Sys2Proof.Machine

/-! ### Who wants a burst slot (R262, R264, R267) -/

/-- A channel takes traffic. -/
def Device.chanOpen (d : Device) (n : DramIx) : Bool :=
  let m := d.regions[dramRegion n].dram
  d.inService n && (decide (d.drams[n].state = .trained) || decide (d.drams[n].state = .retrainPending)) &&
    (decide (m.state = .active) || decide (m.state = .serviceExit))

/-- A region burst lies on a channel (R259). -/
def Device.onChannel (d : Device) (n : DramIx) (g : Nat) : Bool :=
  match d.regions[dramRegion n].dram.place g with
  | some (c, _) => decide (c = n.val % 2)
  | none => false

/-- The vectors that port P wants next, if their burst lies on a channel (R83, R272). -/
def Device.wantsP (d : Device) (n : DramIx) : List Nat :=
  let r := dramRegion n
  let x := d.regions[r]
  if x.run.fetching && decide (x.dram.state = .active) && x.ringRoom then
    let l := Prefetch.next (d.prog r) x.fetch
    match l with
    | a :: _ => if d.onChannel n (a / 2) then l else []
    | [] => []
  else []

/-- The region and the first byte of its DRAM that a DOMAIN object begins at (R36, R150, R258). -/
def Device.dramObject (d : Device) (idx : Nat) : Option (RegionIx × Nat) :=
  if idx = 0x5000 then some (0, 0)
  else if idx = 0x5001 then some (1, 0)
  else if idx = 0x5030 then some (0, d.regions[0].dram.vectorBytes)
  else if idx = 0x5031 then some (1, d.regions[1].dram.vectorBytes)
  else none

/-- Bytes a ReadBlock still reads for the frame it will send next. -/
def Transfer.lacks (t : Transfer) : Nat := min 8192 (t.len - t.done) - t.staged.length

/-- The region and the byte that the ReadBlock of a session reads next. -/
def Device.readAt (d : Device) (i : Fin 16) : Option (RegionIx × Nat) :=
  match d.link.sessions[i].transfer with
  | some t =>
    match d.dramObject t.idx with
    | some (r, base) => if !t.write ∧ 0 < t.lacks then some (r, base + t.off + t.done + t.staged.length) else none
    | none => none
  | none => none

/-- Some ReadBlock reads a region's DRAM. -/
def Device.readsWait (d : Device) (r : RegionIx) : Bool :=
  (List.finRange 16).any fun i => match d.readAt i with | some (q, _) => decide (q = r) | none => false

/-- The session whose ReadBlock wants a burst of a channel next; a read waits for the writes of its port that were issued before it
(R267). -/
def Device.wantsH (d : Device) (n : DramIx) : Option (Fin 16) :=
  (List.finRange 16).find? fun i =>
    match d.readAt i, d.link.sessions[i].transfer with
    | some (r, a), some t => decide (r = dramRegion n) && d.onChannel n (a / 64) && decide (t.behind = 0)
    | _, _ => false

/-- A read of port H was issued before the oldest write of the region and is not complete (R267). -/
def Device.readFirst (d : Device) (r : RegionIx) : Bool :=
  (List.finRange 16).any fun i =>
    match d.readAt i, d.link.sessions[i].transfer with
    | some (q, _), some t => decide (q = r) && decide (t.behind = 0)
    | _, _ => false

/-- A record as it is written: DropGap, which saturates, and FirstOfRun filled in (R130). -/
def WriteRecord.bits (q : WriteRecord) : Nat := q.data.toNat + min 0xFFFF q.gap * 2 ^ 102 + b2n q.first * 2 ^ 123

/-- The first record of those to write is FirstOfRun if none of the run has been stored and it has not begun (R130). -/
def Tally.markFirst (t : Tally) : List WriteRecord :=
  match t.writing with
  | [] => []
  | q :: rest => (if t.offset = 0 then { q with first := !t.anyStored } else q) :: rest

/-- The bytes of records, 24 each, as one number. -/
def recordBytes : List WriteRecord → Nat
  | [] => 0
  | q :: rest => q.bits + 2 ^ 192 * recordBytes rest

/-- The next burst of the group under way: where it begins, and how many of the bytes it takes (R140). -/
def Device.tallyBurst (d : Device) (r : RegionIx) : DramWrite :=
  let x := d.regions[r]
  let t := x.tally
  let address := x.dram.vectorBytes + 24 * (t.nextSlot % x.dram.areaCapacity) + t.offset
  (splitWrite address (recordBytes t.markFirst / 2 ^ (8 * t.offset)) (24 * t.writing.length - t.offset)).headD
    { burst := 0, data := 0, mask := 0 }

/-- The Tally has a burst to write to a channel (R140, R262). -/
def Device.wantsT (d : Device) (n : DramIx) : Bool :=
  let r := dramRegion n
  let x := d.regions[r]
  decide (x.tally.writing ≠ []) && d.draining r && decide (x.dram.areaCapacity ≠ 0) && d.onChannel n (d.tallyBurst r).burst

/-- Writes in the write queue of a channel: at most 64, beyond which what port H has taken stands before the queue (R264; log
entry 50). -/
def Device.queued (d : Device) (n : DramIx) : Nat :=
  min 64 ((d.regions[dramRegion n].dram.writes.filter fun w => d.onChannel n w.burst).length + b2n (d.wantsT n))

/-- The region's oldest port-H write, where it lies on a channel and no read of its port is to come before it (R267). -/
def Device.wantsW (d : Device) (n : DramIx) : Option DramWrite :=
  match d.regions[dramRegion n].dram.writes with
  | [] => none
  | w :: _ => if d.onChannel n w.burst && !d.readFirst (dramRegion n) then some w else none

/-- The write queue of a channel drains: since it held 48, since its oldest write has waited, or because no read waits (R264). -/
def Device.writesDrain (d : Device) (n : DramIx) : Bool :=
  d.drams[n].draining || decide (48 ≤ d.queued n) || (decide (d.wantsP n = []) && (d.wantsH n).isNone)

/-- What a burst slot of a channel is given to. -/
inductive Slot where
  | none
  | readP
  | readH (i : Fin 16)
  | writeT
  | writeH (w : DramWrite)
  deriving DecidableEq, Repr

/-- The token of a port lets it have a slot. -/
def Regulator.ready (x : Regulator) : Bool := decide (0 < x.tokens)

/-- Who takes the next burst slot of a channel: reads that hold a token go before writes that do, port P before H; a slot that none
of them wants goes to who may borrow it, in the order P, T, H (R262, R264; log entry 50). Port S reads as admission does (R92). -/
def Device.burstSlot (d : Device) (n : DramIx) : Slot :=
  let m := d.regions[dramRegion n].dram
  let p := decide (d.wantsP n ≠ [])
  let drain := d.writesDrain n
  let t := drain && d.wantsT n
  let w := if drain then d.wantsW n else .none
  if !d.chanOpen n then .none
  else if p && m.regP.ready then .readP
  else match d.wantsH n, w with
    | some i, w =>
      if m.regH.ready then .readH i
      else if t && m.regT.ready then .writeT
      else if p && m.regP.borrow then .readP
      else if t && m.regT.borrow then .writeT
      else if m.regH.borrow then .readH i else .none
    | .none, some w =>
      if t && m.regT.ready then .writeT
      else if m.regH.ready then .writeH w
      else if p && m.regP.borrow then .readP
      else if t && m.regT.borrow then .writeT
      else if m.regH.borrow then .writeH w else .none
    | .none, .none =>
      if t && m.regT.ready then .writeT
      else if p && m.regP.borrow then .readP
      else if t && m.regT.borrow then .writeT else .none

/-- A burst takes a token, where there is one (R262). -/
def Regulator.spend (x : Regulator) : Regulator := { x with tokens := x.tokens - 1 }

/-- Ports H and T bring a folded region's channels out of self-refresh (R272). -/
def Device.serviceExit (d : Device) (r : RegionIx) : Device :=
  if d.regions[r].mode = .fold ∧ d.shed.stage < 4 then d.dramWake r true else d

/-! ### DRAM_READ_COMPLETE (R256) -/

/-- The ring entries that a burst gives (R36, R72). -/
def entriesOf (as : List Nat) (b : BurstRead) : List RingEntry :=
  as.map fun a => { address := a, data := BitVec.ofNat 256 (b.data / 2 ^ (256 * (a % 2))), bad := decide (b.step ≠ 0) }

/-- A prefetch read completes (R83, R256). -/
def Device.readP (d : Device) (n : DramIx) (e1 e2 : ErrPat) : Device :=
  let r := dramRegion n
  let as := d.wantsP n
  let d := d.onMem r fun m => { m with regP := m.regP.spend }
  let (d, b) := d.readBurst r (as.headD 0 / 2) e1 e2 true true
  let prog := d.prog r
  d.onRegion r fun x =>
    if x.run.fetching then { x with fetch := Prefetch.fetched prog x.fetch (entriesOf as b) } else x

/-- Bytes `[lo, lo + k)` of the 64 bytes of a burst. -/
def burstBytes (data lo k : Nat) : List Byte := (List.range k).map fun j => BitVec.ofNat 8 (data / 2 ^ (8 * (lo + j)))

/-- A read of a ReadBlock completes, or ends it with a data integrity failure (R256, R328). -/
def Device.readH (d : Device) (i : Fin 16) (e1 e2 : ErrPat) : Device :=
  match d.readAt i, d.link.sessions[i].transfer with
  | some (r, a), some t =>
    let d := d.onMem r fun m => { m with regH := m.regH.spend }
    let (d, b) := d.readBurst r (a / 64) e1 e2 true true
    if b.step = 0 then
      let more := burstBytes b.data (a % 64) (min (64 - a % 64) t.lacks)
      let behind := d.regions[r].dram.writes.length
      d.onSession i fun x => { x with transfer := x.transfer.map fun t => { t with staged := t.staged ++ more, behind } }
    else (d.respond i t.ret (.error { code := 6, reason := 2 } t.idx 0)).endTransfer i
  | _, _ => d

/-- DRAM_READ_COMPLETE: the read that the channel serves next returns and is checked (log entry 50). -/
def Device.dramRead (d : Device) (n : DramIx) (e1 e2 : ErrPat) : Device :=
  let r := dramRegion n
  let d := if d.readsWait r then d.serviceExit r else d
  match d.burstSlot n with
  | .readP => d.readP n e1 e2
  | .readH i => d.readH i e1 e2
  | _ => d

def execDramReadComplete (n : DramIx) (e1 e2 : ErrPat) (s : State) : Host.Outcome State Fault Refusal :=
  onDev s fun d => d.dramRead n e1 e2

/-! ### DRAM_WRITE_COMPLETE (R257, R263, R264) -/

/-- The region's fences wait for one write less (R268). -/
def Fence.served (r : RegionIx) (f : Fence) : Fence := if r = 0 then { f with waitA := f.waitA - 1 } else { f with waitB := f.waitB - 1 }

/-- A read of the region's DRAM waits for one write less (R267). -/
def Transfer.served (r : RegionIx) (t : Transfer) : Transfer := if objectRegion t.idx = some r then { t with behind := t.behind - 1 } else t

/-- The oldest write is done and leaves the queue; a drain ends at 16 (R264, R268). -/
def Device.writeDone (d : Device) (n : DramIx) : Device :=
  let r := dramRegion n
  let d := d.onMem r fun m => { m with writes := m.writes.drop 1, regH := m.regH.spend }
  let d := { d with fences := d.fences.map (Fence.served r)
                    link := { d.link with sessions := vmap (fun _ x => { x with transfer := x.transfer.map (Transfer.served r) }) d.link.sessions } }
  if d.queued n ≤ 16 then d.onDram n fun c => { c with draining := false } else d

/-- DRAM_WRITE_COMPLETE: the oldest port-H write reaches the devices (log entry 50). -/
def Device.dramWrite (d : Device) (n : DramIx) (e1 e2 : ErrPat) : Device :=
  let r := dramRegion n
  let d := if d.regions[r].dram.writes ≠ [] then d.serviceExit r else d
  match d.burstSlot n with
  | .writeH w =>
    let d := if 48 ≤ d.queued n then d.onDram n fun c => { c with draining := true } else d
    (d.writeBurst r w e1 e2).writeDone n
  | _ => d

def execDramWriteComplete (n : DramIx) (e1 e2 : ErrPat) (s : State) : Host.Outcome State Fault Refusal :=
  onDev s fun d => d.dramWrite n e1 e2

/-- WRITE_QUEUE_AGE: the channel's write queue drains (R264). -/
def execWriteQueueAge (n : DramIx) (s : State) : Host.Outcome State Fault Refusal :=
  onDev s fun d => if d.queued n ≠ 0 then d.onDram n fun c => { c with draining := true } else d

/-! ### Refresh, pages and tokens (R262, R265, R266) -/

/-- The place of a rank of a subchannel. -/
def rankPlace (sub rank : Fin 2) : Fin 4 := ⟨2 * sub.val + rank.val, by omega⟩
/-- The subchannel and the rank of a place. -/
def placeSub (place : Fin 4) : Fin 2 := ⟨place.val / 2, by omega⟩
def placeRank (place : Fin 4) : Fin 2 := ⟨place.val % 2, by omega⟩
@[simp] theorem rankPlace_place (place : Fin 4) : rankPlace (placeSub place) (placeRank place) = place := by
  revert place; decide
/-- Bank addresses of a device: each is refreshed in every bank group by one same-bank refresh (R266). -/
def bankAddresses : Nat := 4

/-- A request for a burst of a channel waits that lies in some bank of a bank address (R266). -/
def Device.bankWanted (d : Device) (n : DramIx) (sub rank : Fin 2) (address : Nat) : Bool :=
  let r := dramRegion n
  let m := d.regions[r].dram
  let here := fun (g : Nat) => match m.place g with
    | some (c, q) =>
      let x := m.location (q / 2)
      decide (c = n.val % 2) && decide (q % 2 = sub.val) && decide (x.rank = rank.val) && decide (m.bankAddress x.bank = address)
    | none => false
  let reads := (List.finRange 16).filterMap fun i => match d.readAt i with | some (q, a) => if q = r then some (a / 64) else none | none => none
  (d.wantsP n).any (fun a => here (a / 2)) || reads.any here || m.writes.any (fun w => here w.burst) ||
    (d.wantsT n && here (d.tallyBurst r).burst)

/-- The bank addresses refreshed in a tREFI: those that had a moment without a request, as the operand tells, and those that no request
waits for now (R266; log entry 50). -/
def Device.refreshedIn (d : Device) (n : DramIx) (sub rank : Fin 2) (moments : Nat) : Nat :=
  ((List.range bankAddresses).filter fun b => bitAt moments b || !d.bankWanted n sub rank b).length

/-- A refresh round falls due: complete with one same-bank refresh for each bank address, or postponed; four postponed rounds close
every bank of the rank and become one all-bank refresh (R266). -/
def DramChan.refresh (c : DramChan) (sub rank : Fin 2) (banks count : Nat) : DramChan :=
  let i := rankPlace sub rank
  let c := { c with errors := { c.errors with refreshSame := c.errors.refreshSame + count } }
  if count = bankAddresses then c
  else if c.postponed[i] + 1 < 4 then { c with postponed := c.postponed.set i (c.postponed[i] + 1) }
  else { c with errors := { c.errors with refreshAll := c.errors.refreshAll + 1 }
                openRows := c.openRows.filter fun x => decide (¬(x.1 = sub.val ∧ x.2.1 / banks = rank.val))
                postponed := c.postponed.set i 0 }

/-- REFRESH_INTERVAL: one tREFI of a rank of a subchannel has passed (R266). -/
def execRefreshInterval (n : DramIx) (place : Fin 4) (moments : Nat) (s : State) : Host.Outcome State Fault Refusal :=
  onDev s fun d =>
    let sub := placeSub place
    let rank := placeRank place
    let m := d.regions[dramRegion n].dram
    if d.drams[n].state = .absent ∨ m.ranks ≤ rank.val ∨ ¬(m.state = .active ∨ m.state = .serviceExit) then d
    else d.onDram n fun c => c.refresh sub rank m.banks (d.refreshedIn n sub rank moments)

/-- PAGE_IDLE_TIMEOUT: the open row of a bank is closed (R265). -/
def execPageIdleTimeout (n : DramIx) (s : Fin 2) (bank : Fin 64) (st : State) : Host.Outcome State Fault Refusal :=
  onDev st fun d => d.onDram n fun c =>
    { c with openRows := c.openRows.filter fun x => decide (¬(x.1 = s.val ∧ x.2.1 = bank.val)) }

/-- Tokens of one µs (R262). -/
def Regulator.refill (x : Regulator) (rate : Nat) : Regulator := { x with tokens := min x.depth (x.tokens + rate) }

/-- TOKEN_REFILL: every port of the region gains the tokens of one µs (R262). -/
def execTokenRefill (r : RegionIx) (s : State) : Host.Outcome State Fault Refusal :=
  onDev s fun d => d.onMem r fun m =>
    { m with regP := m.regP.refill (m.rate m.regP), regT := m.regT.refill (m.rate m.regT)
             regH := m.regH.refill (m.rate m.regH), regS := m.regS.refill (m.rate m.regS) }

/-! ### Training (R270, R277) -/

/-- A command Retrain (R270, R272). -/
def Device.retrain (d : Device) (n : DramIx) : Device :=
  let m := d.regions[dramRegion n].dram
  d.onDram n fun c =>
    if c.state = .absent then c
    else if m.state = .active then { c with state := .training, full := true }
    else { c with state := .retrainPending, full := true }

/-- TrainingStatus.Command (R277). -/
def specTrainCmd (n : DramIx) (v : Nat) (d : Device) : WSpec :=
  let x := d.regions[dramRegion n]
  { len := 1
    state := if v = 1 then
      [(decide (x.mode = .run) || decide (x.mode = .fold), 5, 1),
       (decide (d.drams[n].state = .absent) || decide (4 ≤ d.shed.stage), 5, 3)] else []
    value := [codeCheck v 2]
    apply := fun d => if v = 1 then d.retrain n else d }

/-- RETRAIN (R277). -/
def execRetrain (h : Hdr) (n : DramIx) (s : State) : Host.Outcome State Fault Refusal :=
  onDev s fun d => d.writeCmd h (chipTarget (0x2510 + n.val) 0xB) 1 fun _ => specTrainCmd n 1

/-- RETRAIN_COMPLETE (R270, R271). -/
def execRetrainComplete (n : DramIx) (t : TrainResult) (s : State) : Host.Outcome State Fault Refusal :=
  onDev s fun d => d.trainingEnd n t

/-- SERVICE_EXIT_IDLE: 100 µs without a request (R272). -/
def execServiceExitIdle (r : RegionIx) (s : State) : Host.Outcome State Fault Refusal :=
  onDev s fun d =>
    let x := d.regions[r]
    if x.dram.state = .serviceExit ∧ x.dram.writes = [] ∧ x.tally.level = 0 ∧ !d.readsWait r then d.dramSleep r else d

/-! ### Redirects and fences (R84, R268) -/

/-- The next vectors of the sequencer come from the DRAM segment that plays. -/
def Sequencer.playsDram (q : Sequencer) : Bool :=
  q.busy && (decide (q.seg.op = .play) || decide (q.seg.op = .repeat)) && !isAnchored q.seg.address

/-- The prefetcher discards what it holds and starts again where the sequencer stands (R84, R268). -/
def Device.refetch (d : Device) (r : RegionIx) : Device :=
  let q := d.regions[d.leader r].seq
  let start := Prefetch.start (d.prog r) q.cur (if q.busy ∧ q.seg.op = .play then q.seg.issued else 0)
  d.onRegion r fun x => { x with fetch := start, stalls := { x.stalls with redirects := satAdd (maxU 32) x.stalls.redirects 1 } }

/-- A redirect (R84): where DRAM plays next the holds start now, else the first vector decided on the new path tells. -/
def Device.redirect (d : Device) (r : RegionIx) : Device :=
  let d := d.refetch r
  d.onRegion (d.leader r) fun x =>
    if x.run.state = RunState.prefill then x
    else if x.seq.playsDram then { x with seq := { x.seq with hold := some HoldKind.redirect } }
    else { x with seq := { x.seq with redirected := true } }

/-- A fence waits for service of a region it names. -/
def Device.fenceBlocked (d : Device) (f : Fence) : Bool :=
  regionsAll.any fun r => bitAt f.regions r.val &&
    (decide (d.regions[r].dram.state = .selfRefresh) || decide (d.regions[r].dram.state = .changing))

/-- A fence number lies before another, counted modulo 2^32. -/
def fenceBefore (a b : Nat) : Bool :=
  let k := (b + 2 ^ 32 - a) % 2 ^ 32
  decide (0 < k) && decide (k < 2 ^ 31)

/-- A completed fence acts on one region: what it covers has only its new contents, and what the ring holds is read anew
(R99, R268). -/
def Device.fenceRegion (d : Device) (number : Nat) (r : RegionIx) : Device :=
  let d := d.onMem r fun m => { m with rewritten := m.rewritten.filter fun x => !fenceBefore x.2.2 number }
  if d.regions[r].mode = .run ∧ d.regions[d.leader r].run.fetching then d.redirect r else d

/-- FENCE_COMPLETE: the oldest fence completes once its writes have (R268). -/
def Device.fenceComplete (d : Device) : Device :=
  match d.fences with
  | [] => d
  | f :: rest =>
    if f.waitA ≠ 0 ∨ f.waitB ≠ 0 ∨ d.fenceBlocked f then d
    else
      let d := { d with fences := rest, fenceDone := BitVec.ofNat 32 f.number }
      let d := (regionsAll.filter fun r => bitAt f.regions r.val).foldl (fun d r => d.fenceRegion f.number r) d
      d.sourceEvent 0x07 .chip

def execFenceComplete (s : State) : Host.Outcome State Fault Refusal := onDev s Device.fenceComplete

/-- Port-H writes of a region, in bursts, that no response has covered yet (R268, R327). -/
def Device.unacked (d : Device) (r : RegionIx) : Nat :=
  ((List.finRange 16).map fun i => match d.link.sessions[i].transfer with
    | some t => if t.write ∧ t.idx = 0x5000 + r.val then t.unacked else 0
    | none => 0).sum

/-- Writes that a fence over a region waits for. -/
def Device.fenceWait (d : Device) (r : RegionIx) : Nat := d.regions[r].dram.writes.length - d.unacked r

/-- The rewritten bursts that no response has covered yet, the newest, wait for a later fence (R268). -/
def Device.retag (d : Device) (r : RegionIx) (number : Nat) : Device :=
  let k := d.regions[r].dram.rewritten.length - d.unacked r
  d.onMem r fun m => { m with rewritten := m.rewritten.take k ++ (m.rewritten.drop k).map fun x => (x.1, x.2.1, number) }

/-- A fence over the regions of a mask starts (R268). -/
def Device.startFence (d : Device) (mask : Nat) : Device :=
  let number := d.fenceIssued + 1
  let f : Fence := { number := number.toNat, regions := mask
                     waitA := if bitAt mask 0 then d.fenceWait 0 else 0, waitB := if bitAt mask 1 then d.fenceWait 1 else 0 }
  let d := (d.retag 0 number.toNat).retag 1 number.toNat
  { d with fenceIssued := number, fences := d.fences ++ [f] }

/-- LoadFence.Request (R280). -/
def specFence (v : Nat) : WSpec where
  len := 1
  value := [(decide (v % 4 = 0), 7, 1)]
  apply d := d.startFence (v % 4)

/-- LOAD_FENCE_REQUEST (R268). -/
def execLoadFenceRequest (h : Hdr) (w : Data) (s : State) : Host.Outcome State Fault Refusal :=
  onDev s fun d => d.writeReg h (chipTarget 0x2540 1) w fun _ _ => specFence w.val

/-! ### Shadow sets and frequency changes (R273, R275, R276) -/

/-- The data rates of R276 (log entry 51). -/
def dataRates : List Nat := [3200, 4800, 5200, 5600, 6000, 6400]

/-- A shadow set fails the checks of R276. -/
def shadowBad (v grade : Nat) : Bool :=
  let rate := field v 0 16
  !dataRates.contains rate || decide (grade < rate) || !Config.jedecLatency rate (field v 16 8) (field v 24 8) ||
    (List.range 15).any fun i => decide (field v (32 + 32 * i) 32 = 0)

/-- A shadow set. -/
def Dram.shadow (m : Dram) (i : Nat) : Nat := if i = 0 then m.shadowA else m.shadowB

/-- A write of a shadow set (R275, R276). -/
def specShadow (r : RegionIx) (sub v : Nat) (d : Device) : WSpec :=
  let m := d.regions[r].dram
  { len := 64
    access := [subCheck [1, 2] sub]
    state := [(decide (sub = m.activeShadow + 1), 5, 3)]
    value := [(decide (v % 2 ^ 512 ≠ 0) && shadowBad v m.grade, 7, 1)]
    apply := fun d =>
      (d.onMem r fun m => if sub = 1 then { m with shadowA := v % 2 ^ 512 } else { m with shadowB := v % 2 ^ 512 }).onDrams r
        fun c => c.setLearnt (sub - 1) none }

/-- DRAM_SHADOW_WRITE (R276). -/
def execDramShadowWrite (h : Hdr) (r : RegionIx) (sub : Nat) (w : Data) (s : State) : Host.Outcome State Fault Refusal :=
  onDev s fun d => d.writeReg h (chipTarget (0x2504 + r.val) sub) w fun _ => specShadow r sub w.val

/-- Steps 1 to 3 of a frequency change: requests are held, the write queues drain, self-refresh (R273). -/
def Device.beginChange (d : Device) (r : RegionIx) (shadow : Nat) : Device :=
  let d := d.regions[r].dram.writes.foldl (fun d w => d.writeBurst r w noErrors noErrors) d
  let d := (d.noWrites r).onMem r fun m => { m with shadowSelect := shadow, state := .changing }
  (d.onTally r Tally.dramStopped).onDrams r fun c => { c with openRows := [], draining := false }

/-- A write of ShadowSelect (R273). -/
def specShadowSelect (r : RegionIx) (v : Nat) (d : Device) : WSpec :=
  let x := d.regions[r]
  let other := decide (v ≠ x.dram.activeShadow)
  { len := 1
    state := [(other && (x.busyMode || decide (x.mode = .fold)), 5, 1),
              (other && (decide (4 ≤ d.shed.stage) || decide (x.dram.state = .changing) || decide (x.dram.state = .absent) ||
                shadowBad (x.dram.shadow v) x.dram.grade), 5, 3)]
    value := [codeCheck v 2]
    apply := fun d => if other then d.beginChange r v else d }

/-- SHADOW_SELECT_WRITE (R273). -/
def execShadowSelectWrite (h : Hdr) (r : RegionIx) (w : Data) (s : State) : Host.Outcome State Fault Refusal :=
  onDev s fun d => d.writeReg h (chipTarget (0x2500 + r.val) 0xC) w fun _ => specShadowSelect r w.val

/-- A channel has a working setting at the rate of a shadow set: what it has learnt there is verified, or it is trained in full (R273;
log entry 51). -/
def DramChan.works (c : DramChan) (shadow : Nat) (t : TrainResult) : Bool :=
  match c.learnt shadow with
  | some x => verifies t x
  | none => (trainedBy t none).ok

/-- A channel at the end of step 6: what it has learnt is loaded, or it is trained (R273). -/
def Device.rateTrained (d : Device) (n : DramIx) (shadow : Nat) (t : TrainResult) : Device :=
  let now := d.now
  let disc := d.disciplined
  if !d.inService n then d
  else d.onDram n fun c =>
    match c.learnt shadow with
    | some x => ({ c with state := .trained, temp := t.temp, lanes := x, full := false } : DramChan).onExit
    | none => c.record (trainedBy t none) t.temp shadow now disc

/-- Every channel of the region in service has a working setting. -/
def Device.bothWork (d : Device) (r : RegionIx) (shadow : Nat) (t0 t1 : TrainResult) : Bool :=
  let works := fun (n : DramIx) (t : TrainResult) => !d.inService n || d.drams[n].works shadow t
  works (regionDram r 0) t0 && works (regionDram r 1) t1

/-- Back at the former rate a channel works, or is lost (R271, R273). -/
def Device.rateBack (d : Device) (n : DramIx) (shadow : Nat) (t : TrainResult) : Device :=
  if !d.inService n then d
  else if d.drams[n].works shadow t then d.rateTrained n shadow t
  else d.channelLost n

/-- Service resumes after a frequency change, unless something else holds the channels in self-refresh (R272, R273). -/
def Device.resumeService (d : Device) (r : RegionIx) : Device :=
  if d.regions[r].dram.state ≠ .changing then d
  else if d.regions[r].mode = .off then d.onMem r fun m => { m with state := .selfRefresh }
  else (d.onMem r fun m => { m with state := .active }).onTally r Tally.dramResumed

/-- FREQUENCY_CHANGE_COMPLETE: step 7, or the return to the former shadow (R273). -/
def Device.endChange (d : Device) (r : RegionIx) (t0 t1 back0 back1 : TrainResult) : Device :=
  let m := d.regions[r].dram
  if m.shadowSelect = m.activeShadow then d
  else if d.bothWork r m.shadowSelect t0 t1 then
    let d := (d.rateTrained (regionDram r 0) m.shadowSelect t0).rateTrained (regionDram r 1) m.shadowSelect t1
    let d := d.onMem r fun m => { m with activeShadow := m.shadowSelect, dataRate := field (m.shadow m.shadowSelect) 0 16 }
    (d.resumeService r).invalidate r
  else
    let d := (d.onMem r fun m => { m with shadowSelect := m.activeShadow }).raise (.region r) 10
    let d := (d.rateBack (regionDram r 0) m.activeShadow back0).rateBack (regionDram r 1) m.activeShadow back1
    (d.resumeService r).invalidate r

def execFrequencyChangeComplete (r : RegionIx) (t0 t1 back0 back1 : TrainResult) (s : State) : Host.Outcome State Fault Refusal :=
  onDev s fun d => d.endChange r t0 t1 back0 back1

/-! ### DramConfig and PortRegulator (R274, R278) -/

/-- The configuration with a value written. -/
def Dram.putConfig (m : Dram) (sub v : Nat) : Dram :=
  match sub with
  | 7 => { m with addressMap := v }
  | 8 => { m with vectorBytes := v, vectorConfigured := v }
  | 9 => { m with failBytes := v, failConfigured := v }
  | 0xB => { m with pageIdle := v }
  | _ => { m with retrainLimit := v }

/-- Size of a subindex of DramConfig that can be written. -/
def configLen (sub : Nat) : Nat :=
  match sub with
  | 8 | 9 => 8
  | 0xB | 0x11 => 2
  | _ => 1

/-- The value checks of R274. -/
def Dram.configChecks (m : Dram) (sub v : Nat) : List Check :=
  match sub with
  | 7 => [codeCheck v 3]
  | 8 => [(decide (v % Config.mib ≠ 0 ∨ 2 ^ 36 < v), 7, 1), (decide (m.capacity < v + m.failBytes + m.service), 7, 4)]
  | 9 => [(decide (v % Config.mib ≠ 0), 7, 1), (decide (m.capacity < m.vectorBytes + v + m.service), 7, 4)]
  | 0xB => [inRangeN v 0 1023]
  | _ => [inRangeN v 1 65535]

/-- A changed layout: a new epoch and areas that hold nothing written in it (R261); every change of DramConfig ends the
currency of an admission (R91). -/
def Device.putConfig (d : Device) (r : RegionIx) (sub v : Nat) : Device :=
  let m := d.regions[r].dram
  let m' := m.putConfig sub v
  if m' = m then d
  else (d.onMem r fun _ => if sub = 7 ∨ sub = 8 ∨ sub = 9 then m'.nextEpoch else m').invalidate r

/-- A write of DramConfig (R274). -/
def specDramConfig (r : RegionIx) (sub v : Nat) (d : Device) : WSpec :=
  if sub = 0xC then specShadowSelect r v d
  else
    { len := configLen sub
      access := [((List.range 0x12).contains sub && !([7, 8, 9, 0xB, 0xC, 0x11].contains sub), 3, 1), (decide (0x11 < sub), 2, 0)]
      state := [(decide (sub = 7 ∨ sub = 8 ∨ sub = 9) && decide (d.regions[r].mode ≠ .configure), 5, 1)]
      value := d.regions[r].dram.configChecks sub v
      apply := fun d => d.putConfig r sub v }

/-- DRAM_CONFIG_WRITE (R274). -/
def execDramConfigWrite (h : Hdr) (r : RegionIx) (sub : Nat) (w : Data) (s : State) : Host.Outcome State Fault Refusal :=
  onDev s fun d => d.writeReg h (chipTarget (0x2500 + r.val) sub) w fun _ => specDramConfig r sub w.val

/-- The regulators with a value written (R278). -/
def Dram.putRegulator (m : Dram) (sub v : Nat) : Dram :=
  match sub with
  | 1 => { m with regP := { m.regP with share := v } }
  | 2 => { m with regT := { m.regT with share := v } }
  | 3 => { m with regH := { m.regH with share := v } }
  | 4 => { m with regS := { m.regS with share := v } }
  | 5 => { m with regP := { m.regP with depth := v, tokens := min v m.regP.tokens } }
  | 6 => { m with regT := { m.regT with depth := v, tokens := min v m.regT.tokens } }
  | 7 => { m with regH := { m.regH with depth := v, tokens := min v m.regH.tokens } }
  | 8 => { m with regS := { m.regS with depth := v, tokens := min v m.regS.tokens } }
  | 9 => { m with regP := { m.regP with borrow := bitAt v 0 }, regT := { m.regT with borrow := bitAt v 1 }
                  regH := { m.regH with borrow := bitAt v 2 }, regS := { m.regS with borrow := bitAt v 3 } }
  | _ => m

/-- The value checks of R278. -/
def Dram.regulatorChecks (m : Dram) (sub v : Nat) : List Check :=
  let m' := m.putRegulator sub v
  [(decide (sub = 1 ∧ 700 < v), 7, 1), (decide ((sub = 2 ∨ sub = 3) ∧ v = 0), 7, 1), (decide (sub = 4 ∧ v < 10), 7, 1),
   (decide (sub ≤ 4 ∧ 850 < m'.regP.share + m'.regT.share + m'.regH.share + m'.regS.share), 7, 4),
   (decide (5 ≤ sub ∧ sub ≤ 8 ∧ (v < 16 ∨ 4096 < v)), 7, 1)]

/-- A write of PortRegulator (R278); nobody writes Rates. -/
def specRegulator (r : RegionIx) (sub v : Nat) (d : Device) : WSpec where
  len := if sub = 9 then 1 else 2
  access := [(decide (sub = 0 ∨ sub = 0xA), 3, 1), (decide (0xA < sub), 2, 0)]
  state := [d.busyCheck r]
  value := d.regions[r].dram.regulatorChecks sub v
  apply d :=
    let m := d.regions[r].dram
    let m' := m.putRegulator sub v
    let d := d.onMem r fun _ => m'
    if m'.regP.share ≠ m.regP.share ∨ m'.regP.depth ≠ m.regP.depth ∨ m'.regP.borrow ≠ m.regP.borrow then d.invalidate r else d

/-- PORT_REGULATOR_WRITE (R278). -/
def execPortRegulatorWrite (h : Hdr) (r : RegionIx) (sub : Nat) (w : Data) (s : State) : Host.Outcome State Fault Refusal :=
  onDev s fun d => d.writeReg h (chipTarget (0x2520 + r.val) sub) w fun _ => specRegulator r sub w.val

/-! ### Discovery (R250) -/

/-- A channel is discovered and trained, or is left out of service; one that was out of service before rejoins (R250, R261). -/
def Device.discoverChannel (d : Device) (n : DramIx) (f : ChanFind) (offending : Bool) : Device :=
  if !f.present then d.onDram n fun c => { c with state := .absent }
  else
    let now := d.now
    let disc := d.disciplined
    let d := d.onDram n fun c => { c with temp := f.train.temp, pllLocked := true }
    let x := trainedBy f.train none
    let back := bitAt d.regions[dramRegion n].dram.away (n.val % 2)
    if f.supported && !offending && x.ok then
      let d := d.onDram n fun c => c.record x f.train.temp 0 now disc
      if back then d.onMem (dramRegion n) Dram.nextEpoch else d
    else d.channelLost n

/-- Power-up step 6 for a region (R250, R274). -/
def Device.discoverRegion (d : Device) (r : RegionIx) (a b : ChanFind) : Device :=
  let differs := a.present && a.supported && b.present &&
    decide (a.width ≠ b.width ∨ a.density ≠ b.density ∨ a.ranks ≠ b.ranks)
  let any := a.present || b.present
  let first := if a.present && (a.supported || !b.present) then a else b
  let mask := b2n a.present + 2 * b2n b.present
  let grade := if a.present && b.present then min a.grade b.grade else first.grade
  let d := d.onMem r fun m =>
    { m with populated := mask, inService := mask, width := if any then first.width else 0xFF
             ranks := if any then first.ranks else 0, density := if any then first.density else 0xFF, grade := grade
             shadowA := if any then 4800 + 65536 * (first.timings / 65536 % 2 ^ 496) else 0, shadowB := 0
             shadowSelect := 0, activeShadow := 0, dataRate := 4800
             state := if any then DramState.active else DramState.absent }
  let d := d.onDrams r fun c => { c with learntA := none, learntB := none }
  ((d.discoverChannel (regionDram r 0) a false).discoverChannel (regionDram r 1) b differs).onMem r fun m => { m.defaultLayout with away := 0 }

/-- Power-up step 6 (R250, R433). -/
def Device.discover (d : Device) (w : World) : Device := (d.discoverRegion 0 w.ch0 w.ch1).discoverRegion 1 w.ch2 w.ch3

end Sys2Proof.Machine
end

