-- ==== Sys2Proof/Machine/PowerUp.lean ====
section
/-!
DEFINITION. Power-up, resets and the loss of power, PLLs, the staleness check, and wakes (R33, R34, R354, R355, R374 to R376,
R431 to R444).
-/
namespace Sys2Proof.Machine

/-! ### What a restart keeps (R354, R355, R437) -/

/-- Lifecycle and authentication over a restart: fuses, failures and lockout stay, staging and unlock go; fuses half blown
leave the key Partial (R417, R418, R422, R428). -/
def Security.restart (s : Security) : Security :=
  { life := s.life, lifeFuse := s.lifeFuse
    keyState := if s.sealing ≠ none then .partly else if s.keyState = .staged then .none else s.keyState
    key := s.key, failures := s.failures, totalFailures := s.totalFailures, lockoutUntil := s.lockoutUntil
    lockoutS := s.lockoutS, tap := s.tap }

/-- A region at its defaults; the epoch of its DRAM and what the devices hold stay. -/
def Region.restart (x : Region) (epoch : Nat) : Region :=
  let away := if x.dram.populated = 0 then x.dram.away else x.dram.populated &&& (3 - x.dram.inService)
  { Region.reset with dram := { epoch := x.dram.epoch, bursts := x.dram.bursts, away }, dealer := { epoch := epoch } }

/-- The core die and both pin dies at their defaults; the Keeper, the fuses and the levels at pins stay. -/
def Device.restart (d : Device) : Device :=
  { Device.reset with
    time := d.time, keeper2 := d.keeper2, free := d.free
    modes := { vkeep := d.modes.vkeep, porst := d.modes.porst, factory := d.modes.factory, clrN := d.modes.clrN
               foldinN := d.modes.foldinN, mode := d.modes.mode, previous := d.modes.previous, lastChange := d.modes.lastChange }
    shed := { cause := d.shed.cause }
    regions := vmap (fun _ x => x.restart d.link.dealer.epoch) d.regions
    waggle := { evio := vmap (fun _ x => { level := x.level }) d.waggle.evio }
    link := { nodeAddress := d.link.nodeAddress, assigned := d.link.assigned, sent := d.link.sent
              dealer := { epoch := d.link.dealer.epoch } }
    log := d.log, logQueue := d.logQueue, logSkipped := d.logSkipped
    sec := d.sec.restart }

/-- Every session and the deal end with a reset, and DealerEpoch increments (R336, R435). -/
def Device.resetDealer (d : Device) (cause : VacateCause) : Device :=
  d.setDealer { session := 0, hostId := 0, priority := 0, cls := 0, epoch := d.nextEpoch } cause

/-! ### The steps of power-up (R433, R434) -/

/-- The next UnlockNonce (R428). -/
def Device.renewNonce (d : Device) : Device :=
  ({ d with sec := { d.sec with unlockNonce := (Config.random d.free).toNat } }).nextFree

/-- What a pass of a full calibration measures that no command carries: a free value, but for its collection, which succeeds (R177; log
entry 6). -/
def Device.freshMeasure (d : Device) (n : Nat) : Measure :=
  let m := Config.calMeasure d.free n
  { m with hits := fitHits calHits m.hits }

/-- A unit is calibrated, or its calibration is rejected after three repeats (R191, R192, R433, R434). -/
def Device.calUnitFresh (d : Device) (rejected : Bool) (b : BlockIx) (p : Nat) : Device :=
  let m := d.freshMeasure (unitNumber b p)
  let d := d.onCal b p fun u => { u with activity := CalActivity.idle, noJoker := false }
  if rejected then (d.onCal b p fun u => { u with retries := u.retries + 3 }).rejected b p
  else d.accepted b p m m

/-- A full calibration of every unit of a region at once, with the units it rejects (R173, R198, R440). -/
def Device.calRegion (d : Device) (r : RegionIx) (suspects : List Nat) : Device :=
  let d := (blocksOf r).foldl (fun d b =>
    let d := places.foldl (fun d p => d.calUnitFresh (suspects.contains (unitNumber b p)) b p) d
    let d := d.onBlock b fun x =>
      { x with queue := [], active := none
               role := if x.role = .remapped then .remapped else if suspects.contains (unitNumber b 16) then .unavailable else .idle }
    d.calSources b) d
  d.nextFree

/-- Units stand at their factory defaults before the first calibration (R192, R197, R433), and their sensors read (log entry 6). -/
def Device.calDefaults (d : Device) (r : RegionIx) : Device :=
  let use := d.free
  ((blocksOf r).foldl (fun d b => places.foldl (fun d p =>
    let n := unitNumber b p
    d.onCal b p fun u => ({ u with temp := Config.sensor use n }.toFactory n).recheck) d) d).nextFree

/-- A region in Configure goes through Calibrate to Ready (steps 7 and 8). -/
def Device.toCalibrate (d : Device) (r : RegionIx) : Device :=
  if d.regions[r].mode = .configure then d.setMode r .calibrate else d
/-- Step 8. -/
def Device.toReady (d : Device) (r : RegionIx) (w : World) : Device :=
  if d.regions[r].mode = .calibrate then (d.calRegion r w.suspects).setMode r .ready else d

/-- A pin link trains, or raises PinLinkDown (R434). -/
def Device.trainLink (d : Device) (r : RegionIx) (ok : Bool) : Device := if ok then d else d.raise (.region r) 1

/-- The DRAM of a region that is in Fold sleeps (R371). -/
def Device.foldSleeps (d : Device) (r : RegionIx) : Device := if d.regions[r].mode = .fold then d.dramSleep r else d

/-- Steps 5 to 8 (R433; log entry 15). -/
def Device.powerUpRegions (d : Device) (w : World) : Device :=
  let d := (d.trainLink 0 w.linkA).trainLink 1 w.linkB
  let d := ((d.discover w).foldSleeps 0).foldSleeps 1
  let d := ((d.toCalibrate 0).toCalibrate 1).refreshMode
  ((d.toReady 0 w).toReady 1 w).refreshMode

/-- Power-up from step 3: the core die has power (R433). DRAM that the board did not hold has undefined contents (R437; log
entry 15). -/
def Device.powerUp (d : Device) (w : World) (cause : WakeCause) (held : Bool) : Device :=
  let d := d.restart.renewNonce
  let d := if held then d else (d.loseAll 0).loseAll 1
  let d := { d with modes := { d.modes with coreDie := true, clocks := true, pllLocked := w.pllLocks, wakeCause := cause }
                    link := { d.link with ports := vmap (fun _ p => { p with pllLocked := true }) d.link.ports } }
  let d := ((d.calDefaults 0).calDefaults 1).refreshMode
  let d := if d.balancesBroken then d.voidChip true true true else d
  let d := if w.pllLocks then d else d.setCause .chip 0 true
  let d := if d.modes.foldinN then d else d.setCause .chip 3 true
  let d := if w.pllLocks then d.powerUpRegions w else d
  { d with modes := { d.modes with status := .done } }

/-- PORST_N_RELEASE (R415, R433; log entry 15). -/
def Device.porstRelease (d : Device) (fact : Bool) (w : World) : Device :=
  if !d.modes.vkeep || d.modes.porst then d
  else
    let life := d.sec.lifeFuse
    let d := { d with sec := { d.sec with life }
                      modes := { d.modes with porst := true, factory := fact && decide (life = Life.openLife) } }
    d.powerUp w .powerUp false

def execPorstNRelease (fact : Bool) (w : World) (s : State) : Host.Outcome State Fault Refusal :=
  onDev s fun d => d.porstRelease fact w

/-- PORST_N_FALL (R435): everything stops at its defaults, sessions and the deal end, the TAP is reset. -/
def Device.porstFall (d : Device) : Device :=
  if !d.modes.porst then d
  else
    let up := d.modes.vkeep
    let d := d.restart
    let d := if up then d.resetDealer .none else d
    { d with modes := { vkeep := d.modes.vkeep, clrN := d.modes.clrN, foldinN := d.modes.foldinN }
             sec := { d.sec with tap := .idcode } }

def execPorstNFall (s : State) : Host.Outcome State Fault Refusal := onDev s Device.porstFall

/-- The ModeChange entry of a warm reset whose first mode is the mode before it; any other is written as the mode changes (R412,
R436). -/
def Device.sameModeNote (d : Device) : Device :=
  let m : DevMode := if d.modes.factory then .factory else .configure
  if d.modes.mode = m then d.addNote 0 0 (m.ctorIdx + m.ctorIdx * 2 ^ 8) else d

/-- WARM_RESET (R436): not in Standby or Dormant, where no supervision runs (log entry 15). -/
def Device.warmReset (d : Device) (w : World) : Device :=
  if !d.modes.coreDie || !d.modes.clocks then d
  else
    let old := d
    let d := d.restart.resetDealer .warmReset
    let change := d.link.lastChange
    let d := (d.sameModeNote.powerUp w .warmReset false).abortedFrom old
    { d with link := { d.link with vacateCause := .warmReset, lastChange := change } }

def execWarmReset (w : World) (s : State) : Host.Outcome State Fault Refusal := onDev s fun d => d.warmReset w

/-- VKEEP below its reset level: removal of power (R374). Fuses stay, and so do the levels at the pins (log entry 62). -/
def Device.vkeepLoss (d : Device) : Device :=
  if !d.modes.vkeep then d
  else
    { Device.reset with
      time := d.time, free := d.free
      modes := { vkeep := false, porst := d.modes.porst, clrN := d.modes.clrN, foldinN := d.modes.foldinN }
      regions := vmap (fun i x => { x with dram := { x.dram with bursts := if h : i < 2 then d.regions[i].dram.bursts else [] } })
        Device.reset.regions
      waggle := { evio := vmap (fun _ x => { level := x.level }) d.waggle.evio }
      link := { sent := d.link.sent }
      sec := { life := d.sec.life, lifeFuse := d.sec.lifeFuse, keyState := d.sec.restart.keyState, key := d.sec.key } }

def execVkeepBelowReset (s : State) : Host.Outcome State Fault Refusal := onDev s Device.vkeepLoss

/-- VKEEP_APPLIED (R34, R261, R336, R413): the Keeper starts; its log is empty and both epochs are 1. -/
def execVkeepApplied (s : State) : Host.Outcome State Fault Refusal :=
  onDev s fun d => if d.modes.vkeep then d else { d with modes := { d.modes with vkeep := true } }

/-! ### PLLs (R33) -/

/-- The main PLL is locked or not (log entry 62). -/
def Device.mainPll (d : Device) (locked : Bool) : Device :=
  if d.modes.clocks then ({ d with modes := { d.modes with pllLocked := locked } }).setCause .chip 0 (!locked) else d

def execMainPllLoss (s : State) : Host.Outcome State Fault Refusal := onDev s fun d => d.mainPll false
def execMainPllRelock (s : State) : Host.Outcome State Fault Refusal := onDev s fun d => d.mainPll true

/-- A DDR PLL is locked or not: a fault of the region while one of its channels is not (log entry 51). -/
def Device.ddrPll (d : Device) (n : DramIx) (locked : Bool) : Device :=
  let r := dramRegion n
  if d.drams[n].state = .absent then d
  else
    let d := d.onDram n fun c => { c with pllLocked := locked }
    let lost := (List.range 2).any fun i =>
      let c := d.drams[regionDram r i]
      decide (c.state ≠ .absent) && !c.pllLocked
    d.setCause (.region r) 11 lost

def execDdrPllLoss (n : DramIx) (s : State) : Host.Outcome State Fault Refusal := onDev s fun d => d.ddrPll n false
def execDdrPllRelock (n : DramIx) (s : State) : Host.Outcome State Fault Refusal := onDev s fun d => d.ddrPll n true

/-- A port's link goes down: its transfers end, sessions and credits stay (R328, R330). -/
def Device.linkLost (d : Device) (p : PortIx) : Device :=
  (List.finRange 16).foldl (fun d i =>
    match d.link.sessions[i].transfer with
    | some t => if t.port = p then d.endTransfer i else d
    | none => d) (d.onPort p fun x => { x with link := 0, fec := 0 })

/-- A serdes PLL is locked or not: without it the port has no link. -/
def Device.serdesPll (d : Device) (p : PortIx) (locked : Bool) : Device :=
  if !d.modes.coreDie then d
  else
    let d := d.onPort p fun x => { x with pllLocked := locked }
    let d := if locked then d else d.linkLost p
    d.setCause .chip 1 (!(d.link.ports[(0 : PortIx)].pllLocked && d.link.ports[(1 : PortIx)].pllLocked))

def execSerdesPllLoss (p : PortIx) (s : State) : Host.Outcome State Fault Refusal := onDev s fun d => d.serdesPll p false
def execSerdesPllRelock (p : PortIx) (s : State) : Host.Outcome State Fault Refusal := onDev s fun d => d.serdesPll p true

/-! ### FOLDIN_N (R399) -/

/-- FOLDIN_N is high or low. -/
def Device.foldIn (d : Device) (high : Bool) : Device :=
  ({ d with modes := { d.modes with foldinN := high } }).setCause .chip 3 (!high)

def execFoldinNFall (s : State) : Host.Outcome State Fault Refusal := onDev s fun d => d.foldIn false
def execFoldinNRise (s : State) : Host.Outcome State Fault Refusal := onDev s fun d => d.foldIn true

/-! ### The staleness check (R439 to R444) -/

/-- The Comb is scrubbed (R441; log entry 71). -/
def Device.checkComb (d : Device) (r : RegionIx) (corrected uncorrectable : Nat) : Device :=
  if d.regions[r].comb = .scrubbing then
    d.onRegion r fun x =>
      { x with comb := if uncorrectable = 0 then .valid else .invalid
               stale := { x.stale with combCorrected := corrected, combUncorrectable := uncorrectable
                                       findings := x.stale.findings ||| (if uncorrectable = 0 then 4 else 12) } }
  else d

/-- Nanoseconds of a day and of an hour. -/
def dayNs : Nat := 86400000000000
def hourNs : Nat := 3600000000000

/-- A channel is retrained where it left self-refresh in need of it or was last trained over 24 h ago (R442): first the
retraining, and a full training if that finds no setting (R270; log entry 71). -/
def Device.checkChannel (d : Device) (n : DramIx) (t : TrainResult) : Device :=
  let c := d.drams[n]
  let old := decide (c.state = .trained) && decide (c.lastTime + dayNs < d.now)
  if !d.inService n || !(decide (c.state = .training) || old) then d
  else
    let d := d.onDram n fun c => if old then { c with state := .training, full := false } else c
    let d := d.trainingEnd n t
    let d := if d.drams[n].state = .training then d.trainingEnd n t else d
    d.onRegion (dramRegion n) fun x => { x with stale := { x.stale with findings := x.stale.findings ||| 16 } }

/-- A unit is stale (R440). -/
def CalUnit.isStale (u : CalUnit) (now : Nat) : Bool :=
  decide (u.state = .uncalibrated) || decide (u.lastTime + hourNs < now) || decide (128 < (u.temp - u.lastTemp).natAbs)

/-- Units of a region, by block and place. -/
def unitsOf (r : RegionIx) : List (BlockIx × Nat) := (blocksOf r).flatMap fun b => places.map fun p => (b, p)

/-- Units are judged, and the region is calibrated if one is stale (R440; log entry 71). -/
def Device.checkCal (d : Device) (r : RegionIx) (suspects : List Nat) : Device :=
  let now := d.now
  let stale := (unitsOf r).filter fun (b, p) => (d.cal b p).isStale now
  let d := stale.foldl (fun d (b, p) => d.onCal b p fun u => if u.state = .valid then { u with state := .stale } else u) d
  let d := d.onRegion r fun x => { x with stale := { x.stale with staleUnits := stale.length } }
  if stale = [] then
    let k := d.regions[r].calPolicy
    (unitsOf r).foldl (fun d (b, p) => if (d.cal b p).triggers k then d.requestCal b p false else d) d
  else
    let bad := (unitsOf r).any fun (b, p) => suspects.contains (unitNumber b p)
    (d.calRegion r suspects).onRegion r fun x =>
      { x with stale := { x.stale with findings := x.stale.findings ||| (if bad then 66 else 2) } }

/-- A check that is done moves the region to Ready where R439 or R443 says so. -/
def Device.checkReady (d : Device) (r : RegionIx) : Device :=
  let x := d.regions[r]
  if x.byShed then
    (((d.onRegion r fun x => { x with byShed := false, resumeRequired := x.runShed, runShed := false })).setMode r .ready).refreshMode
  else if x.stale.trigger = .standbyWake ∧ x.recorded = .ready then (d.setMode r .ready).refreshMode
  else d

/-- STALENESS_CHECK_DONE (R439): items 3 to 5, which wait while a shed stage is in force (R443; log entry 71). -/
def Device.checkDone (d : Device) (r : RegionIx) (corrected uncorrectable : Nat) (t0 t1 : TrainResult) (suspects : List Nat) :
    Device :=
  if d.regions[r].stale.state ≠ .running ∨ d.regions[r].mode ≠ .configure ∨ d.shed.stage ≠ 0 then d
  else
    let d := d.checkComb r corrected uncorrectable
    let d := (d.checkChannel (regionDram r 0) t0).checkChannel (regionDram r 1) t1
    let d := d.checkCal r suspects
    let now := d.now
    (d.onRegion r fun x => { x with stale := { x.stale with state := .done, endTime := now } }).checkReady r

def execStalenessCheckDone (r : RegionIx) (corrected uncorrectable : Nat) (t0 t1 : TrainResult) (suspects : List Nat) (s : State) :
    Host.Outcome State Fault Refusal := onDev s fun d => d.checkDone r corrected uncorrectable t0 t1 suspects

/-! ### Wake frames (R332, R374, R376) -/

/-- A Thenko frame comes in Standby or Dormant (log entry 15). -/
def Device.wakeFrame (d : Device) (p : PortIx) (wake : Bool) (node : Nat) (w : World) : Device :=
  if d.powerState ≠ .standby ∧ d.powerState ≠ .dormant then d
  else if !wake || !d.nodeOk node then d.discard p
  else if 4 ≤ d.shed.stage then d
  else if d.powerState = .standby then d.wakeStandby .wakeFrame
  else d.powerUp w .wakeFrame w.dramHeld

def execWakeFrame (p : PortIx) (wake : Bool) (node : Nat) (w : World) (s : State) : Host.Outcome State Fault Refusal :=
  onDev s fun d => d.wakeFrame p wake node w

end Sys2Proof.Machine
end

