-- ==== Sys2Proof/Machine/Modes.lean ====
section
/-!
DEFINITION. ModeRequest and its codes, Standby and Dormant, supply shedding, temperatures and power (R371 to R390, R401).
-/
namespace Sys2Proof.Machine

/-! ### Standby and Dormant (R289, R374) -/

/-- A cell of a region that enters Standby: pins isolated, measurement and capture given up (R171, R217, R371; log entry 62). -/
def Cell.toRetention (x : Cell) : Cell :=
  let x := x.isolate
  { x with meas := x.meas.abort, tmuResult := x.tmuResult.discard, windows := [], strobes := [], edges := [], frc := {} }

/-- A region enters Standby: it becomes Off, its pin die keeps its objects, its DRAM sleeps (R374; log entry 62). -/
def Device.standbyRegion (d : Device) (r : RegionIx) : Device :=
  let d := (blocksOf r).foldl (fun d b => (d.abandonCal b).onBlock b fun x => x.freeJoker.stopDds) (d.abandonFull r)
  let d := (d.abandonCheck r).dramSleep r
  let d := (d.suspendFor r).onCells (inRegion r) Cell.toRetention
  let now := d.now
  d.onRegion r fun x =>
    { x with mode := .off, recorded := if x.byShed then x.recorded else x.mode
             die := if x.die = .unpowered then .unpowered else .retention
             adm := { x.adm with result := .none }, stale := { x.stale with away := x.awaySince now } }

/-- Offers that the model waits for at most before FCLK stops (log entry 54). -/
def offerBound : Nat := 4096

/-- The part enters Standby: FCLK runs until no offer is in flight, then stops (R289, R374; log entry 54). -/
def Device.enterStandby (d : Device) : Device :=
  if !d.modes.clocks then d
  else
    let d := d.arriveAll offerBound
    let d := ((d.standbyRegion 0).standbyRegion 1).portsTo 1
    ({ d with modes := { d.modes with clocks := false } }).refreshMode

/-- The part enters Dormant: sessions end, the core die and both pin dies lose power (R374; log entry 62). -/
def Device.enterDormant (d : Device) : Device :=
  if !d.modes.coreDie then d
  else
    let d := d.arriveAll offerBound
    let d := ((d.endSessions.portsTo 1).dieDown 0).dieDown 1
    let d := { d with regions := vmap (fun _ (x : Region) => { x with mode := .off }) d.regions
                      sec := { d.sec with unlocked := false, unlockExpiry := 0, tap := .idcode }
                      modes := { d.modes with coreDie := false, clocks := false, status := .idle } }
    d.refreshMode

/-! ### ModeRequest (R372, R378, R379, R401) -/

/-- Regions that a mask names (log entry 61). -/
def namedRegions (mask : Nat) : List RegionIx := regionsAll.filter fun r => bitAt mask r.val

/-- Some severe source of a collector reacts with a Fold of the region or the chip. -/
def Device.severeWide (d : Device) (col : ColId) (r : RegionIx) : Bool := d.severeFor col (.region r) || d.severeFor col .chip

/-- What keeps a region in Fold against LeaveFold and Off (R401). -/
def Device.foldKept (d : Device) (r : RegionIx) : Bool :=
  d.chipHeld || d.severeFor .chip .chip || d.severeWide (.region r) r ||
    (blocksOf r).any (fun b => d.severeWide (.block b) r) || (cellsOf r).any (fun c => d.severeWide (.cell c) r) ||
    d.parityHolds .chip 11 d.chip.failedBelow r.val || decide (3 ≤ d.shed.stage)

/-- A channel of the region is Training or its DRAM is Changing (R372). -/
def Device.dramBusy (d : Device) (r : RegionIx) : Bool :=
  decide (d.regions[r].dram.state = .changing) ||
    (List.range 2).any fun i => decide (d.drams[regionDram r i].state = .training)

/-- A named region is not in a From state of the request (R372). -/
def Device.wrongFrom (d : Device) (v : Nat) (r : RegionIx) : Bool :=
  let x := d.regions[r]
  match v with
  | 1 => decide (x.mode ≠ .off) && decide (x.mode ≠ .ready)
  | 2 => decide (x.mode ≠ .configure)
  | 3 => decide (x.mode ≠ .ready)
  | 4 => decide (x.mode ≠ .configure) && decide (x.mode ≠ .ready) && decide (x.mode ≠ .fold)
  | 7 => decide (x.mode ≠ .ready)
  | 8 => decide (x.mode ≠ .fold)
  | _ => false

/-- What else refuses the request for a region (R372, R379, R401; log entry 33). -/
def Device.requestBlocked (d : Device) (v : Nat) (r : RegionIx) : Bool :=
  let x := d.regions[r]
  match v with
  | 2 => decide (x.stale.state = .running) || d.dramBusy r
  | 4 => decide (x.mode = .fold) && d.foldKept r
  | 7 => !x.resumeRequired
  | 8 => d.foldKept r
  | _ => false

/-- Standby and Dormant are refused (R374, R375). -/
def Device.sleepRefused (d : Device) : Bool :=
  decide (d.modes.mode ≠ .configure) && decide (d.modes.mode ≠ .ready) || d.anyBusy

/-- EXTEST, CLAMP or HIGHZ is in the instruction register (R427). -/
def Security.holdsBoundary (s : Security) : Bool := decide (s.tap = .extest) || decide (s.tap = .clamp) || decide (s.tap = .highz)

/-- The code names regions (R378). -/
def regionScope (v : Nat) : Bool := decide (1 ≤ v ∧ v ≤ 4) || decide (v = 7) || decide (v = 8)

/-- The state checks of a request (R378; log entry 33). -/
def Device.requestChecks (d : Device) (v : Nat) : List Check :=
  if v = 0 then []
  else
    let named := if regionScope v then namedRegions d.modes.regions else []
    [(named.any (d.wrongFrom v), 5, 1), (named.any (d.requestBlocked v), 5, 3),
     (decide (v = 5 ∨ v = 6) && d.sleepRefused, 5, 2),
     (decide (v = 3 ∨ v = 5 ∨ v = 6) && d.sec.holdsBoundary, 5, 2),
     (decide (d.modes.status = .inProgress) || (decide (v ≠ 8) && decide (d.shed.stage ≠ 0)), 5, 3),
     (decide (v = 7) && d.modes.coupled && decide (d.modes.regions % 4 ≠ 3), 5, 3)]

/-- A region enters Calibrate (R171, R198, R372). -/
def Device.startCalibrate (d : Device) (r : RegionIx) : Device :=
  let d := (d.setMode r .calibrate).onCells (inRegion r) fun x => { x with tmuResult := x.tmuResult.discard, windows := [] }
  d.startFull r

/-- What an accepted request does to a region (R372, R379). -/
def Device.moveRegion (v : Nat) (d : Device) (r : RegionIx) : Device :=
  match v with
  | 1 => if d.regions[r].mode = .off then d.leaveOff r else d.setMode r .configure
  | 2 => d.setMode r .ready
  | 3 => d.startCalibrate r
  | 4 => d.regionOff r
  | 7 => d.onRegion r fun x => { x with resumeRequired := false }
  | _ => d.leaveFoldMode r

/-- An accepted request (R378; log entry 61). -/
def Device.acceptRequest (d : Device) (v : Nat) : Device :=
  if v = 0 then d
  else
    let d := { d with modes := { d.modes with status := .inProgress, lastRequest := v } }
    match v with
    | 5 => d.enterStandby
    | 6 => d.enterDormant
    | _ => ((namedRegions d.modes.regions).foldl (Device.moveRegion v) d).refreshMode

/-- ModeRequest.Request (R378; log entry 61). -/
def specModeRequest (v : Nat) (d : Device) : WSpec where
  len := 1
  state := d.requestChecks v
  value := [codeCheck v 9, (regionScope v && decide (d.modes.regions % 4 = 0), 7, 4)]
  apply d := d.acceptRequest v

/-- A write of a request code (log entry 61). -/
def Device.modeRequest (d : Device) (h : Hdr) (v : Nat) : Device := d.writeCmd h (chipTarget 0x2001 1) v fun _ => specModeRequest v

def execModeRequestConfigure (h : Hdr) (s : State) : Host.Outcome State Fault Refusal := onDev s fun d => d.modeRequest h 1
def execModeRequestReady (h : Hdr) (s : State) : Host.Outcome State Fault Refusal := onDev s fun d => d.modeRequest h 2
def execModeRequestCalibrate (h : Hdr) (s : State) : Host.Outcome State Fault Refusal := onDev s fun d => d.modeRequest h 3
def execModeRequestOff (h : Hdr) (s : State) : Host.Outcome State Fault Refusal := onDev s fun d => d.modeRequest h 4
def execModeRequestStandby (h : Hdr) (s : State) : Host.Outcome State Fault Refusal := onDev s fun d => d.modeRequest h 5
def execModeRequestDormant (h : Hdr) (s : State) : Host.Outcome State Fault Refusal := onDev s fun d => d.modeRequest h 6
def execResume (h : Hdr) (s : State) : Host.Outcome State Fault Refusal := onDev s fun d => d.modeRequest h 7
def execLeaveFold (h : Hdr) (s : State) : Host.Outcome State Fault Refusal := onDev s fun d => d.modeRequest h 8

/-- MODE_REQUEST_DONE (R378): every region named has reached its target, which it does as the request is accepted. -/
def execModeRequestDone (s : State) : Host.Outcome State Fault Refusal :=
  onDev s fun d =>
    if d.modes.status = .inProgress then { d with modes := { d.modes with status := .done } } else d

/-- DEALER_VACATED_READY (R380): with no region in Run, regions in Configure move as if by ModeRequest Ready. -/
def Device.vacatedReady (d : Device) : Device :=
  if !d.link.readyOwed || regionsAll.any (fun r => decide (d.regions[r].mode = .run)) then d
  else
    let d := { d with link := { d.link with readyOwed := false } }
    let free := decide (d.shed.stage = 0) && decide (d.modes.status ≠ .inProgress)
    let go := fun (d : Device) (r : RegionIx) =>
      if free && decide (d.regions[r].mode = .configure) && !d.requestBlocked 2 r then d.setMode r .ready else d
    (regionsAll.foldl go d).refreshMode

def execDealerVacatedReady (s : State) : Host.Outcome State Fault Refusal := onDev s Device.vacatedReady

/-! ### Shedding (R385 to R389) -/

/-- A rail is watched (R385). -/
def Device.watched (d : Device) (rail : Fin 12) : Bool :=
  let side : RegionIx := if rail.val % 2 = 1 then 0 else 1
  if rail.val < 3 then d.modes.porst
  else if rail.val < 5 then
    let m := d.regions[side].dram
    d.modes.porst && decide (m.state ≠ .selfRefresh) && decide (m.state ≠ .absent) && d.modes.coreDie
  else if rail.val < 11 then d.modes.porst && !d.dieOff side
  else d.modes.coreDie

/-- A watched rail is below warning. -/
def Device.railLow (d : Device) : Bool := (List.finRange 12).any fun i => d.watched i && d.shed.cause.getLsbD i.val

/-- Stage changes, with its log entry and its Notify (R386). -/
def Device.setStage (d : Device) (n : Nat) : Device :=
  let d := { d with shed := { d.shed with stage := n, peak := max d.shed.peak n } }
  d.note 6 0 1 (n + d.shed.cause.toNat * 2 ^ 8) 0

/-- Calibrations of a block at S1 (R197): a substituting Joker swaps back, a Bridge is finished, others are abandoned. -/
def Device.shedBlock (d : Device) (b : BlockIx) : Device :=
  match d.blocks[b].active with
  | none => d
  | some p =>
    if p < 16 then
      let x := d.cells[blockCell b p]
      if x.path.step = some .bridgeIn ∨ x.cal.activity = .awaitSwapBack then d
      else if x.path.substituted then d.swapBackEarly b p
      else d.abandonCal b
    else d.abandonCal b

/-- Units of a full calibration stop at S1 and wait (R197). -/
def CalUnit.shed (u : CalUnit) (swapped : Bool) : CalUnit :=
  if u.activity = .calibrating ∧ !swapped then u.abandon true else u

/-- S1 (R386): TMU, DDS, calibration; a ModeRequest in progress ends (R388). -/
def Device.shed1 (d : Device) : Device :=
  let d := (List.finRange 8).foldl Device.shedBlock d
  let d := d.onCells (fun _ => true) fun x => { x.shedStamper with cal := x.cal.shed x.path.substituted }
  { d with blocks := vmap (fun _ (x : Block) =>
             { x.shedDds with jokerCal := x.jokerCal.shed false, role := if x.role = .selfCal then .idle else x.role }) d.blocks
           modes := { d.modes with status := if d.modes.status = .inProgress then .done else d.modes.status } }

/-- S2 (R217). -/
def Device.shed2 (d : Device) : Device := d.onCells (fun _ => true) Cell.shedMeasure

/-- A run whose vectors play ends at the next vector boundary; what told it first counts (R28, R96, R97; log entry 32). -/
def Device.endAtNext (d : Device) (r : RegionIx) (reason : Nat) : Device :=
  d.onRun r fun x => { x with ending := x.ending.or (some reason) }

/-- The vector boundary at which a run ends: the start of the next vector, or the end of the last (R97). -/
def Sequencer.boundary (q : Sequencer) : Nat := q.nextStart.getD (q.lastStart + q.lastPeriod)

/-- Drive edges that lie no later than a time happen (R52). -/
def Cell.edgesUntil (t : Nat) : Nat → Cell → Cell
  | 0, x => x
  | n + 1, x =>
    match x.edges with
    | e :: _ => if e.at' ≤ t then Cell.edgesUntil t n x.edge else x
    | [] => x

/-- A run that was told to end reaches its vector boundary: it ends in the region with the drive state of the last vector applied
(R28, R97; log entry 32). -/
def Device.endAtBoundary (d : Device) (r : RegionIx) : Device :=
  match d.regions[r].run.ending with
  | none => d
  | some reason =>
    let t := d.regions[r].seq.boundary
    let d := d.onCells (inRegion r) fun x => Cell.edgesUntil t x.edges.length x
    d.endRun r reason true

/-- S3 marks a region and ends its run with EndReason 0x07 (R97, R386); one that is in Fold it holds there. -/
def Device.shedRun (d : Device) (r : RegionIx) : Device :=
  let d := d.onRegion r fun x =>
    match x.mode with
    | .off => x
    | .fold => { x with heldByShed := true }
    | m => { x with byShed := true, runShed := x.run.inProgress, recorded := m
                    stale := { x.stale with again := decide (x.stale.state = .running) } }
  if d.regions[r].run.playing then d.endAtNext r 7 else d.endRun r 7 true

/-- S3 (R386; log entry 63). -/
def Device.shed3 (d : Device) : Device := ((d.shedRun 0).shedRun 1).shedFolds.refreshMode

/-- Runs that wait for a vector boundary end before the clocks stop (R374, R386; log entry 63). -/
def Device.endWaiting (d : Device) : Device := ((d.endAtBoundary 0).endAtBoundary 1).shedFolds

/-- Requests that need port H and were accepted are answered with a state conflict (R386). -/
def Device.refuseTransfers (d : Device) : Device :=
  (List.finRange 16).foldl (fun d i =>
    match d.link.sessions[i].transfer with
    | some t =>
      if (d.dramObject t.idx).isSome then
        (d.respond i t.ret (.error { code := 5, reason := 3 } t.idx 0)).endTransfer i
      else d
    | none => d) d

/-- The effects of one stage (log entry 63). -/
def Device.stageEffect (d : Device) (n : Nat) : Device :=
  match n with
  | 1 => d.shed1
  | 2 => d.shed2
  | 3 => d.shed3
  | 4 => d.endWaiting.refuseTransfers.enterStandby
  | _ => d.endWaiting.enterDormant

/-- Entry from None (R386, R389). -/
def Device.beginEpisode (d : Device) : Device :=
  { d with shed := { d.shed with episodes := satAdd (maxU 32) d.shed.episodes 1, lastOnset := d.now, lastCause := d.shed.cause } }

/-- Stage rises to `n` with the effects of every stage on the way (R386; log entry 63). -/
def Device.raiseStage (d : Device) (n : Nat) : Device :=
  let from' := d.shed.stage
  let d := if from' = 0 then d.beginEpisode else d
  let d := d.setStage n
  ([1, 2, 3, 4, 5].filter fun k => decide (from' < k ∧ k ≤ n)).foldl Device.stageEffect d

/-- A rail is below warning: the Balances are void (R407, R408). -/
def Device.railFalls (d : Device) (rail : Fin 12) : Device :=
  let bit := (1 : BitVec 12) <<< rail.val
  let d := { d with shed := { d.shed with cause := d.shed.cause ||| bit
                                          lastCause := if d.shed.stage = 0 then d.shed.lastCause else d.shed.lastCause ||| bit } }
  ((d.voidRun1 0).voidRun1 1).voidChip true true true

/-- RAIL_BELOW_WARNING (R385, R386). -/
def Device.railWarn (d : Device) (rail : Fin 12) : Device :=
  if !d.watched rail then d
  else
    let d := d.railFalls rail
    if d.shed.stage = 0 then d.raiseStage 1 else d

def execRailBelowWarning (rail : Fin 12) (s : State) : Host.Outcome State Fault Refusal := onDev s fun d => d.railWarn rail

/-- RAIL_BELOW_RESET (R386): Stage S5 at once; VKEEP acts as VKEEP_BELOW_RESET does. -/
def Device.railReset (d : Device) (rail : Fin 12) : Device :=
  if rail.val = 11 ∨ !d.watched rail then d
  else
    let d := d.railFalls rail
    if d.shed.stage < 5 then d.raiseStage 5 else d

def execRailBelowReset (rail : Fin 12) (s : State) : Host.Outcome State Fault Refusal := onDev s fun d => d.railReset rail

/-- RAIL_ABOVE_WARNING (R385). -/
def execRailAboveWarning (rail : Fin 12) (s : State) : Host.Outcome State Fault Refusal :=
  onDev s fun d => { d with shed := { d.shed with cause := d.shed.cause &&& ~~~((1 : BitVec 12) <<< rail.val) } }

/-- SHED_STAGE_ADVANCE (R386). -/
def Device.advanceStage (d : Device) : Device :=
  if d.shed.stage = 0 ∨ d.shed.maxStage ≤ d.shed.stage ∨ !d.railLow then d else d.raiseStage (d.shed.stage + 1)

def execShedStageAdvance (s : State) : Host.Outcome State Fault Refusal := onDev s Device.advanceStage

/-- S3 is restored for a region (R387, R443). -/
def Device.unshedRegion (d : Device) (r : RegionIx) : Device :=
  let x := d.regions[r]
  let d := d.onRegion r fun x => { x with heldByShed := false }
  if !x.byShed ∨ x.mode ≠ .fold then d
  else if d.covered (.region r) then d.onRegion r fun x => { x with byShed := false, runShed := false, recorded := .fold }
  else if x.stale.again then
    ((d.onRegion r fun x => { x with mode := .configure }).dramWake r false).startCheck r x.stale.trigger
  else
    let d := (d.dramWake r false).setMode r .ready
    d.onRegion r fun x => { x with byShed := false, runShed := false, resumeRequired := x.runShed }

/-- S4 is restored for a region (R387): it will come back to Ready, or to a Fold that something else holds. -/
def Device.prepareReturn (d : Device) (r : RegionIx) : Device :=
  let d := d.onRegion r fun x => { x with heldByShed := false }
  if !d.regions[r].byShed then d
  else if d.covered (.region r) then d.onRegion r fun x => { x with byShed := false, runShed := false, recorded := .fold }
  else d.onRegion r fun x => { x with byShed := false, runShed := false, recorded := .ready, resumeRequired := x.runShed }

/-- S2 and S1 are restored (R387). -/
def Device.unshed12 (d : Device) (from' : Nat) : Device :=
  let d := if 2 ≤ from' then d.onCells (fun _ => true) Cell.unshedMeasure else d
  let live := fun (i : Nat) => if h : i / 64 < 2 then d.regions[i / 64].run.inProgress else false
  let d := { d with cells := vmap (fun i x => x.unshedStamper (live i)) d.cells
                    blocks := vmap (fun _ x => x.unshedDds) d.blocks }
  regionsAll.foldl (fun d r => if d.regions[r].fullCal then d.startFull r else d) d

/-- The stages come down one after the other (R387; log entry 63). -/
def Device.lowerStages (d : Device) : Device :=
  ((List.range 5).reverse.filter fun k => decide (k < d.shed.stage)).foldl Device.setStage d

/-- The values of ShedStage are at their defaults after S4 and S5 (R389). -/
def Shed.defaults (x : Shed) : Shed :=
  { cause := x.cause, dwell := x.dwell, maxStage := x.maxStage, autoRecover := x.autoRecover }

/-- SHED_RECOVERY (R387): every watched rail has been above warning for 1 ms (log entry 15). -/
def Device.recover (d : Device) (w : World) : Device :=
  let n := d.shed.stage
  if n = 0 ∨ d.railLow then d
  else if n = 5 then
    let auto := d.shed.autoRecover
    let d := d.lowerStages
    let d := { d with shed := d.shed.defaults }
    if auto then d.powerUp w .shedRecovery w.dramHeld else d
  else if n = 4 then
    let auto := d.shed.autoRecover
    let d := ((d.prepareReturn 0).prepareReturn 1).lowerStages.unshed12 4
    let d := { d with shed := d.shed.defaults }
    if auto then d.wakeStandby .shedRecovery else d
  else
    let d := if n = 3 then (d.endWaiting.unshedRegion 0).unshedRegion 1 else d
    let d := d.lowerStages.unshed12 n
    ({ d with shed := { d.shed with lastRestore := d.now } }).refreshMode

def execShedRecovery (w : World) (s : State) : Host.Outcome State Fault Refusal := onDev s fun d => d.recover w

/-- ShedStage.ClearPeak (R389). -/
def specClearPeak (v : Nat) : WSpec where
  len := 1
  value := [boolCheck v]
  apply d := if v = 1 then { d with shed := { d.shed with peak := d.shed.stage } } else d

/-- CLEAR_PEAK (R389). -/
def execClearPeak (h : Hdr) (w : Data) (s : State) : Host.Outcome State Fault Refusal :=
  onDev s fun d => d.writeReg h (chipTarget 0x2020 8) w fun _ _ => specClearPeak w.val

/-- ShedConfig (R390). -/
def specShedConfig (sub v : Nat) : WSpec where
  len := if sub = 1 then 4 else 1
  value := match sub with
    | 1 => [inRangeN v 10 10000]
    | 2 => [(decide (6 ≤ v), 7, 2), (decide (v < 3), 7, 1)]
    | _ => [boolCheck v]
  apply d := { d with shed := match sub with
    | 1 => { d.shed with dwell := v }
    | 2 => { d.shed with maxStage := v }
    | _ => { d.shed with autoRecover := decide (v = 1) } }

/-! ### Power and temperatures (R180, R183, R383, R384) -/

/-- POWER_REPORT_UPDATE (R383). -/
def execPowerReportUpdate (core dieA dieB total energy : Nat) (volts amps : List Int) (s : State) :
    Host.Outcome State Fault Refusal :=
  onDev s fun d =>
    if d.modes.clocks then
      { d with report := { d.report with core := core, dieA := dieA, dieB := dieB, total := total, energy := energy
                                         volts := volts, amps := amps, updateTime := d.now } }
    else d

/-- A unit's sensor reads anew: its excursion (R180), and the trigger of a cell calibration (R183). -/
def Device.unitTemp (d : Device) (u : Fin 136) (t : Int) : Device :=
  let b := unitBlock u
  let p := unitPlace u
  if d.regions[blockRegion b].die ≠ .active then d
  else
    let d := d.onCal b p fun x => { x with temp := t }.recheck
    let d := d.setCause (.block b) 1 (d.anyExcursion b)
    if (d.cal b p).triggers d.regions[blockRegion b].calPolicy then d.requestCal b p false else d

/-- The hottest cell of the dies with power, the lowest of several (R384). -/
def Device.hottestCell (d : Device) : Nat :=
  ((List.finRange 128).foldl (fun (best : Nat × Int) c =>
    if d.dieOff (cellRegion c) then best
    else if best.1 = 0xFF ∨ best.2 < d.cells[c].cal.temp then (c.val, d.cells[c].cal.temp) else best) (0xFF, 0)).1

/-- OverTemp and the sources that the dies' temperatures raise (R384). -/
def Device.dieLimits (d : Device) : Device :=
  let x := d.report
  let hot := fun (t : Int) => b2n (decide (x.warnLimit < t))
  let a := !d.dieOff 0
  let b := !d.dieOff 1
  let bits := hot x.tempCore + 2 * (b2n a * hot x.tempA) + 4 * (b2n b * hot x.tempB)
  let d := { d with report := { d.report with overTemp := bits, hottest := d.hottestCell } }
  let d := d.setCause .chip 7 (decide (bits ≠ 0))
  d.setCause .chip 8 d.dieAbove

/-- TEMPERATURE_UPDATE (R183, R270, R384). -/
def Device.temperature (d : Device) (core dieA dieB : Int) (units : List (Fin 136 × Int)) (phy : List Int) : Device :=
  if !d.modes.coreDie then d
  else
    let d := units.foldl (fun d (u, t) => d.unitTemp u t) d
    let d := phy.zipIdx.foldl (fun d (t, i) =>
      if h : i < 4 then (if d.drams[i].state = .absent then d else d.phyTemp ⟨i, h⟩ t) else d) d
    let d := { d with report := { d.report with tempCore := core
                                                tempA := if d.dieOff 0 then d.report.tempA else dieA
                                                tempB := if d.dieOff 1 then d.report.tempB else dieB } }
    d.dieLimits

def execTemperatureUpdate (core dieA dieB : Int) (units : List (Fin 136 × Int)) (phy : List Int) (s : State) :
    Host.Outcome State Fault Refusal := onDev s fun d => d.temperature core dieA dieB units phy

/-- Temperatures.WarnLimit (R384). -/
def specWarnLimit (v : Nat) : WSpec where
  len := 2
  value := [inRange (signed 16 v) 960 1840]
  apply d := ({ d with report := { d.report with warnLimit := signed 16 v } }).dieLimits

end Sys2Proof.Machine
end

