-- ==== Sys2Proof/Machine/Secrets.lean ====
section
/-!
DEFINITION. Lifecycle, authentication, the debug unlock and the boundary-scan instructions of the test access port
(R415 to R430).
-/
namespace Sys2Proof.Machine

/-! ### Lifecycle (R417 to R419) -/

/-- The key that a register of 32 bytes holds, byte 0 first (R417). -/
def keyBytes (v : Nat) : List Nat := bytesOf 32 v
/-- The KeyCheck of a key (R417; log entry 69). -/
def keyCheckOf (v : Nat) : Nat := numOf ((sha256 (keyBytes v)).take 4)

/-- The DeviceMode conditions of R418 (log entry 68). -/
def Device.fuseMode (d : Device) : Bool :=
  (decide (d.modes.mode = .configure) || decide (d.modes.mode = .ready)) && !d.anyBusy

/-- A write of KeyProvision (R417). -/
def specKeyProvision (v : Nat) (d : Device) : WSpec where
  len := 32
  state := [(decide (d.sec.life ≠ .openLife) || (decide (d.sec.keyState ≠ .none) && decide (d.sec.keyState ≠ .staged)) ||
    decide (d.sec.status = .programming), 5, 3)]
  apply d := { d with sec := { d.sec with staging := v % 2 ^ 256, keyState := .staged } }

/-- Lifecycle.KeyCheck. -/
def specKeyCheck (v : Nat) : WSpec where
  len := 4
  apply d := { d with sec := { d.sec with keyCheck := v } }

/-- A lifecycle procedure starts: true Seal, false Retire. -/
def Device.beginFuses (d : Device) (toSeal : Bool) : Device :=
  { d with sec := { d.sec with status := .programming, sealing := some toSeal } }

/-- Lifecycle.Command (R417 to R419, R425). -/
def specLifeCmd (v : Nat) (secure : Bool) (d : Device) : WSpec :=
  let s := d.sec
  let busy := decide (s.status = .programming)
  match v with
  | 1 =>
    { len := 1
      state := [(decide (s.life ≠ .openLife ∨ s.keyState ≠ .staged) || busy || decide (d.shed.stage ≠ 0), 5, 3), (!d.fuseMode, 5, 2)]
      value := [(decide (s.keyCheck ≠ keyCheckOf s.staging), 7, 4)]
      apply := fun d => d.beginFuses true }
  | 2 =>
    { len := 1
      access := [(decide (s.life = .sealed) && !secure, 4, 2)]
      state := [(decide (s.life = .blank ∨ s.life = .retired) || busy, 5, 3), (!d.fuseMode, 5, 2)]
      apply := fun d => d.beginFuses false }
  | 3 =>
    { len := 1
      state := [(busy, 5, 3)]
      apply := fun d => { d with sec := { d.sec with staging := 0
                                                     keyState := if d.sec.keyState = .staged then .none else d.sec.keyState } } }
  | _ => { len := 1, value := [codeCheck v 4], apply := id }

/-- An unlock ends: halted contexts resume (R427, R428). -/
def Device.endUnlock (d : Device) : Device :=
  { d with sec := { d.sec with unlocked := false, unlockExpiry := 0 }
           ryu := { d.ryu with ctxs := vmap (fun _ (x : Context) => { x with halted := false }) d.ryu.ctxs } }

/-- A lifecycle change: its entry and Notify, whose source code and Data no rule gives, and the end of an unlock (R419). -/
def Device.lifeChanged (d : Device) : Device :=
  let src := Config.unstated d.free % 65536
  let data := Config.unstated (d.free + 1) % 2 ^ 44
  ((d.nextFree.nextFree.addLog 0 src data).notify 1 0 src data 0).endUnlock

/-- Sessions are no longer secure, and a Secure Dealer is a Dealer (R416, R420). -/
def Device.loseSecure (d : Device) : Device :=
  let d := { d with link := { d.link with
    sessions := vmap (fun _ (x : Session) => { x with secure := false, key := 0, challenge := none }) d.link.sessions } }
  if d.link.dealer.cls = 2 then d.setDealer { d.link.dealer with cls := 1 } d.link.vacateCause else d

/-- FUSE_PROGRAMMING_COMPLETE (R418, R419; log entry 68). -/
def Device.fusesDone (d : Device) (agree : Bool) : Device :=
  match d.sec.sealing with
  | none => d
  | some toSeal =>
    let d := { d with sec := { d.sec with sealing := none } }
    if !agree then { d with sec := { d.sec with keyState := .partly, status := .failed } }
    else if toSeal then
      ({ d with sec := { d.sec with life := .sealed, lifeFuse := .sealed, keyState := .programmed, key := d.sec.staging
                                    staging := 0, status := .done } }).lifeChanged
    else
      (({ d with sec := { d.sec with life := .retired, lifeFuse := .retired, keyState := .destroyed, key := 2 ^ 256 - 1
                                     staging := 0, status := .done } }).loseSecure).lifeChanged

def execFuseProgrammingComplete (agree : Bool) (s : State) : Host.Outcome State Fault Refusal := onDev s fun d => d.fusesDone agree

/-- A write of a Lifecycle command (log entry 68). -/
def Device.lifeCmd (d : Device) (h : Hdr) (v : Nat) : Device :=
  d.writeCmd h (chipTarget 0x2200 5) v fun i d => specLifeCmd v (d.isSecure i h) d

def execKeyProvision (h : Hdr) (w : Data) (s : State) : Host.Outcome State Fault Refusal :=
  onDev s fun d => d.writeReg h (chipTarget 0x2200 3) w fun _ => specKeyProvision w.val
def execSeal (h : Hdr) (s : State) : Host.Outcome State Fault Refusal := onDev s fun d => d.lifeCmd h 1
def execRetire (h : Hdr) (s : State) : Host.Outcome State Fault Refusal := onDev s fun d => d.lifeCmd h 2
def execDiscardKey (h : Hdr) (s : State) : Host.Outcome State Fault Refusal := onDev s fun d => d.lifeCmd h 3

/-! ### Authentication (R421, R422) -/

/-- An authentication failure: the fourth in a row starts a lockout of 1 s, each further one doubles it (R422). -/
def Security.fail (s : Security) (now : Nat) : Security :=
  let n := s.failures + 1
  let s := { s with failures := min 255 n, totalFailures := satAdd (maxU 32) s.totalFailures 1 }
  if n < 4 then s
  else
    let t := if s.lockoutS = 0 then 1 else min 256 (2 * s.lockoutS)
    { s with lockoutS := t, lockoutUntil := now + t * 1000000000 }

/-- The Body of R421. -/
def authBody (session hostId hostNonce partNonce : Nat) : List Nat :=
  bytesOf 8 Config.serial.toNat ++ bytesOf 2 session ++ bytesOf 8 (hostId % 2 ^ 48) ++ bytesOf 16 hostNonce ++ bytesOf 16 partNonce

/-- HMAC-SHA-256 of the four letters of a prefix and a body, as a number (R421; log entry 69). -/
def authMac (key : Nat) (letter : Nat) (body : List Nat) : Nat :=
  numOf (hmac (keyBytes key) ([0x44, 0x58, 0x53, letter] ++ body))

/-- A lockout is in force (R422). -/
def Device.lockedOut (d : Device) : Bool := decide (d.now < d.sec.lockoutUntil)

/-- CHALLENGE (R421, R422). -/
def Device.challenge (d : Device) (h : Hdr) (nonce : Nat) : Device :=
  d.receive h 13 fun i d =>
    d.tryRequest [(decide (d.sec.life ≠ .sealed), 4, 6), (d.lockedOut, 5, 3)] fun d =>
      let part := (Config.random d.free).toNat
      let now := d.now
      let d := d.nextFree.onSession i fun x =>
        { x with challenge := some { hostNonce := nonce % 2 ^ 128, partNonce := part, time := now } }
      (d, some (.ok [part]))

def execChallenge (h : Hdr) (nonce : Nat) (s : State) : Host.Outcome State Fault Refusal := onDev s fun d => d.challenge h nonce

/-- A right Answer: the session is secure and has its key; the Dealer that gives it is the Secure Dealer (R420 to R422). -/
def Device.makeSecure (d : Device) (i : Fin 16) (body : List Nat) : Device :=
  let key := authMac d.sec.key 0x4B body
  let d := d.onSession i fun x => { x with secure := true, key := key, challenge := none }
  let d := { d with sec := { d.sec with failures := 0, lockoutS := 0, lockoutUntil := 0 } }
  if d.isDealer i then d.setDealer { d.link.dealer with cls := 2 } d.link.vacateCause else d

/-- ANSWER (R421, R422): any Answer ends the pending challenge. -/
def Device.answer (d : Device) (h : Hdr) (mac : Nat) : Device :=
  d.receive h 14 fun i d =>
    let c := d.link.sessions[i].challenge
    let host := d.link.sessions[i].hostId
    let d := d.onSession i fun x => { x with challenge := none }
    d.tryRequest [(decide (d.sec.life ≠ .sealed), 4, 6)] fun d =>
      match c with
      | none => (d, some (.error { code := 5, reason := 3 } 0 0))
      | some c =>
        if c.time + 100000000 < d.now then (d, some (.error { code := 5, reason := 3 } 0 0))
        else
          let body := authBody (sessNo i) host c.hostNonce c.partNonce
          if mac = authMac d.sec.key 0x48 body then
            let reply := authMac d.sec.key 0x50 body
            (d.makeSecure i body, some (.ok [reply]))
          else
            let now := d.now
            ({ d with sec := d.sec.fail now }, some (.error { code := 4, reason := 2 } 0 0))

def execAnswer (h : Hdr) (mac : Nat) (s : State) : Host.Outcome State Fault Refusal := onDev s fun d => d.answer h mac

/-- LOCKOUT_EXPIRY (R422). -/
def execLockoutExpiry (s : State) : Host.Outcome State Fault Refusal :=
  onDev s fun d => { d with sec := { d.sec with lockoutUntil := 0 } }

/-! ### The debug unlock (R428, R429) -/

/-- The right UnlockToken (R428). -/
def Device.token (d : Device) : Nat :=
  authMac d.sec.key 0x55 (bytesOf 8 Config.serial.toNat ++ bytesOf 16 d.sec.unlockNonce)

/-- What a token write needs before its token is looked at (R425; log entry 69). -/
def Device.tokenSpec (d : Device) (secure : Bool) : WSpec where
  len := 32
  access := [(decide (d.sec.life = .sealed) && !secure, 4, 2), (decide (d.sec.life = .retired), 4, 6)]
  state := [(decide (d.sec.life = .openLife), 5, 3)]
  apply := id

/-- A token write (R428): right, it unlocks; wrong, it is a failure; either way the nonce is renewed. -/
def Device.tryToken (d : Device) (access : List Check) (secure : Bool) (w : Data) : Device × Option Reply :=
  let t := chipTarget 0x2220 4
  match d.tryWrite t w access (d.tokenSpec secure) with
  | (d, some (.ok _)) =>
    let now := d.now
    if w.val = d.token then
      (({ d with sec := { d.sec with unlocked := true, unlockExpiry := now + d.sec.unlockMinutes * 60000000000 } }).renewNonce,
       some (.ok []))
    else (({ d with sec := d.sec.fail now }).renewNonce, some (.error { code := 4, reason := 2 } t.idx t.sub))
  | x => x

/-- UNLOCK_TOKEN (R428). -/
def execUnlockToken (h : Hdr) (w : Data) (s : State) : Host.Outcome State Fault Refusal :=
  onDev s fun d => d.receive h 4 fun i d => d.tryToken (d.dealerChecks i) (d.isSecure i h) w

/-- DebugAccess.Command (R429). -/
def specDebugCmd (v : Nat) : WSpec where
  len := 1
  value := [codeCheck v 2]
  apply d := if v = 1 then d.endUnlock else d

/-- DebugAccess.UnlockMinutes (R429). -/
def specUnlockMinutes (v : Nat) : WSpec where
  len := 2
  value := [inRangeN v 1 1440]
  apply d := { d with sec := { d.sec with unlockMinutes := v } }

/-- LOCK (R428). -/
def execLock (h : Hdr) (s : State) : Host.Outcome State Fault Refusal :=
  onDev s fun d => d.writeCmd h (chipTarget 0x2220 7) 1 fun _ _ => specDebugCmd 1
/-- UNLOCK_EXPIRY (R428). -/
def execUnlockExpiry (s : State) : Host.Outcome State Fault Refusal := onDev s fun d => if d.sec.unlocked then d.endUnlock else d

/-! ### The test access port (R426, R427, R430) -/

/-- The TAP has power and is out of Test-Logic-Reset (R426; log entry 70). -/
def Device.tapOn (d : Device) : Bool := d.modes.porst && d.modes.coreDie

/-- Internal debug is permitted in the lifecycle (R430). -/
def Device.internal (d : Device) : Bool :=
  match d.sec.life with
  | .blank | .openLife => true
  | .sealed => d.sec.unlocked
  | .retired => false

/-- EXTEST, CLAMP and HIGHZ take effect (R427; log entry 70). -/
def Device.boundaryMode (d : Device) : Bool :=
  (match d.modes.mode with | .configure | .ready | .fold | .factory => true | _ => false) && !d.anyBusy

/-- The boundary outputs are held now (R427, R430). -/
def Device.boundaryHeld (d : Device) : Bool := d.tapOn && d.sec.holdsBoundary && d.boundaryMode

/-- IDCODE (R426). -/
def idcode : Nat := (Config.stepping.toNat / 256 % 16) * 2 ^ 28 + 0x4128 * 2 ^ 12 + 0x2B5 * 2 + 1

/-- An instruction is in the register; a value no rule gives is captured. -/
def Device.loadTap (d : Device) (t : TapInstr) : Device :=
  if !d.tapOn then d
  else
    let v := Config.unstated d.free
    ({ d with sec := { d.sec with tap := t, tapData := v } }).nextFree

/-- A boundary instruction that does not take effect counts as refused (R427; log entry 70). -/
def Device.loadBoundary (d : Device) (t : TapInstr) : Device :=
  if !d.tapOn then d
  else
    let d := d.loadTap t
    if d.boundaryMode then d
    else { d with sec := { d.sec with refusedScans := satAdd (maxU 32) d.sec.refusedScans 1, tapData := 0 } }

/-- TAP_RESET: Test-Logic-Reset selects IDCODE (R426). -/
def execTapReset (s : State) : Host.Outcome State Fault Refusal :=
  onDev s fun d => { d with sec := { d.sec with tap := .idcode } }
/-- IDCODE (R426). -/
def execTapIdcode (s : State) : Host.Outcome State Fault Refusal :=
  onDev s fun d => if d.tapOn then { d with sec := { d.sec with tap := .idcode, tapData := idcode } } else d
/-- SAMPLE/PRELOAD (R426): the order of the boundary cells is not part of the rules. -/
def execTapSamplePreload (s : State) : Host.Outcome State Fault Refusal := onDev s fun d => d.loadTap .samplePreload
/-- EXTEST (R427). -/
def execTapExtest (s : State) : Host.Outcome State Fault Refusal := onDev s fun d => d.loadBoundary .extest
/-- CLAMP (R427). -/
def execTapClamp (s : State) : Host.Outcome State Fault Refusal := onDev s fun d => d.loadBoundary .clamp
/-- HIGHZ (R427). -/
def execTapHighz (s : State) : Host.Outcome State Fault Refusal := onDev s fun d => d.loadBoundary .highz
/-- BYPASS (R426). -/
def execTapBypass (s : State) : Host.Outcome State Fault Refusal :=
  onDev s fun d => if d.tapOn then { d with sec := { d.sec with tap := .bypass, tapData := 0 } } else d

/-- An internal instruction that is not permitted acts as BYPASS and counts as refused (R427). -/
def Device.refuseScan (d : Device) (t : TapInstr) : Device :=
  { d with sec := { d.sec with tap := t, tapData := 0, refusedScans := satAdd (maxU 32) d.sec.refusedScans 1 } }

end Sys2Proof.Machine
end

