-- ==== Sys2Proof/Machine/Link.lean ====
section
/-!
DEFINITION. Thenko: attach and detach, Notifies, the election and the deal, links, PTP, Sync and the SYNC bus registers
(R317 to R348, R416).
-/
namespace Sys2Proof.Machine

/-! ### Sessions (R323, R326) -/

/-- The lowest free place of the session table. -/
def Device.freeSession (d : Device) : Option (Fin 16) := (List.finRange 16).find? fun i => !d.link.sessions[i].attached

/-- ATTACH (R323, R324): an Observer session with the lowest free number, or a refusal when 16 exist (log entry 58). -/
def Device.attach (d : Device) (h : Hdr) (hostId : Nat) : Device :=
  let p := h.port
  if !d.linkUp p then d
  else if !d.answering || !arrives h true || !d.nodeOk h.node || h.secure then d.discard p
  else
    let addr := d.link.nodeOf h.node
    let send := fun (d : Device) (r : Reply) => d.emit { d.link.frame 0 (retOf h 1) r with session := 0 }
    match d.freeSession with
    | none => send d (.error { code := 5, reason := 4 } 0 0)
    | some i =>
      let now := d.now
      send (d.onSession i fun _ => { attached := true, hostId := hostId % 2 ^ 48, lastPort := p, lastFrame := now })
        (.ok [sessNo i, addr])

/-- ATTACH (R322, R323): the upper 16 bits of HostId are not used. -/
def execAttach (h : Hdr) (hostId _upper : Nat) (s : State) : Host.Outcome State Fault Refusal :=
  onDev s fun d => d.attach h hostId

/-- A Detach (R323, R325, R334): its transfer ends, what waits to be answered is answered, then it is answered, and the session ends. -/
def Device.detach (d : Device) (h : Hdr) : Device :=
  d.receive h 2 fun i d =>
    let d := d.endTransfer i
    let d := { d with link := d.link.flush i }
    ((d.emit (d.link.frame i (retOf h 2) (.ok []))).endSession i, none)

/-- DETACH (R323). -/
def execDetach (h : Hdr) (s : State) : Host.Outcome State Fault Refusal := onDev s fun d => d.detach h

/-- A part that is Blank refuses all but Attach, Read and Detach (R416; log entry 68). -/
def Device.blankCheck (d : Device) : Check := (decide (d.sec.life = .blank), 4, 6)

/-- A Heartbeat message (R322). -/
def Device.heartbeat (d : Device) (h : Hdr) : Device :=
  d.receive h 12 fun _ d => d.tryRequest [d.blankCheck] fun d => (d, some (.ok [d.link.dealer.epoch]))

/-- HEARTBEAT (R326). -/
def execHeartbeat (h : Hdr) (s : State) : Host.Outcome State Fault Refusal := onDev s fun d => d.heartbeat h

/-- SESSION_TIMEOUT (R323); suspended in Standby and Dormant (R332). -/
def execSessionTimeout (i : Fin 16) (s : State) : Host.Outcome State Fault Refusal :=
  onDev s fun d => if d.answering && d.link.sessions[i].attached then d.endSession i else d

/-! ### Notifies (R331) -/

/-- An acknowledgement arrives: the Notify of that Sequence no longer waits for the session. -/
def Device.acknowledge (d : Device) (i : Fin 16) (p : PortIx) (seq : Nat) : Device :=
  let other := fun (w : Nat × PortIx × Nat) => decide (¬(w.1 = sessNo i ∧ w.2.1 = p ∧ w.2.2 = seq))
  let l := d.link.notifies.map fun n => { n with waiting := n.waiting.filter other }
  { d with link := { d.link with notifies := l.filter fun n => decide (n.waiting ≠ []) } }

/-- NOTIFY_ACK (R331). -/
def Device.notifyAck (d : Device) (h : Hdr) : Device :=
  if !d.linkUp h.port then d
  else match d.frameOk h with
    | none => d.rejectFrame h
    | some i => ((d.frameSeen i h.port).grantCredits i h).acknowledge i h.port h.seq

def execNotifyAck (h : Hdr) (s : State) : Host.Outcome State Fault Refusal := onDev s fun d => d.notifyAck h

/-- A Notify goes to a session on the port on which its last frame came: on another port than before it takes the next Sequence
there (R323, R325, R331; log entry 58). -/
def Link.readdress (l : Link) (w : Nat × PortIx × Nat) : Link × (Nat × PortIx × Nat) :=
  match sessIx w.1 with
  | none => (l, w)
  | some i =>
    let x := l.sessions[i]
    if x.lastPort = w.2.1 then (l, w)
    else ({ l with sessions := l.sessions.set i (x.sendOwn x.lastPort) }, (w.1, x.lastPort, x.own x.lastPort))

/-- Every session that a Notify waits for is addressed on its present port. -/
def Link.readdressAll (l : Link) : List (Nat × PortIx × Nat) → Link × List (Nat × PortIx × Nat)
  | [] => (l, [])
  | w :: rest =>
    let (l, w) := l.readdress w
    let (l, rest) := l.readdressAll rest
    (l, w :: rest)

/-- A Notify is sent again to those who have not acknowledged it; after the eighth time it leaves the queue (R331). -/
def Link.sendAgain (l : Link) : List Notify → Link × List Notify
  | [] => (l, [])
  | n :: rest =>
    let (l, waiting) := l.readdressAll n.waiting
    let n := { n with waiting, sentAgain := n.sentAgain + 1 }
    let (l, rest) := ({ l with sent := l.sent ++ l.notifyFrames n }).sendAgain rest
    (l, if n.sentAgain < 8 then n :: rest else rest)

/-- NOTIFY_RETRANSMIT (R331): every Notify that waits is sent again. -/
def execNotifyRetransmit (s : State) : Host.Outcome State Fault Refusal :=
  onDev s fun d =>
    if d.answering then
      let (l, notifies) := d.link.sendAgain d.link.notifies
      { d with link := { l with notifies } }
    else d

/-! ### The Dealer (R333 to R335) -/

/-- What a claimer is told of the Dealer (R322). -/
def Device.dealerReply (d : Device) : Reply := .ok [d.link.dealer.session, d.link.dealer.epoch]

/-- The refusal of a Claim while a Dealer exists: its payload names the Dealer (R333; log entry 59). -/
def Device.dealerRefusal (d : Device) : Reply :=
  .dealerExists { code := 5, reason := 3 } d.link.dealer.session d.link.dealer.epoch

/-- The checks of a Claim (R333, R416, R425; log entry 59). -/
def Device.claimChecks (d : Device) (i : Fin 16) (cls : Nat) : List Check :=
  [d.blankCheck, (decide (cls ≠ 1 ∧ cls ≠ 2), 7, 2),
   (decide (cls = 2) && decide (d.sec.life ≠ .sealed), 4, 6),
   (decide (cls = 2) && decide (d.sec.life = .sealed) && !d.link.sessions[i].secure, 4, 2)]

/-- A Claim is refused because there is a Dealer, unless what refuses it comes earlier in the order of R360. -/
def Device.claimLate (d : Device) (i : Fin 16) (cls : Nat) : Bool :=
  decide (d.link.dealer.session ≠ 0) && !d.isDealer i &&
    (match firstRefusal (d.claimChecks i cls) with
      | some r => decide (5 < r.code)
      | none => true)

/-- CLAIM (R333): answered at once when there is a Dealer, else when the window closes. -/
def Device.claim (d : Device) (h : Hdr) (prio cls : Nat) : Device :=
  d.receive h 9 fun i d =>
    if d.claimLate i cls then (d, some d.dealerRefusal)
    else d.tryRequest (d.claimChecks i cls) fun d =>
      if d.isDealer i then (d, some d.dealerReply)
      else
        let c : Claim := { session := sessNo i, priority := prio % 256, hostId := d.link.sessions[i].hostId, secure := h.secure
                           port := h.port, seq := h.seq, node := h.node, tag := h.tag }
        (({ d with link := { d.link with window := some ((d.link.window.getD []) ++ [c]) } }).owe i h, none)

def execClaim (h : Hdr) (prio cls : Nat) (s : State) : Host.Outcome State Fault Refusal := onDev s fun d => d.claim h prio cls

/-- A claim ranks above another (R333). -/
def Claim.above (a b : Claim) : Bool :=
  decide (b.priority < a.priority) || (decide (a.priority = b.priority) &&
    (decide (b.hostId < a.hostId) || (decide (a.hostId = b.hostId) && decide (a.session < b.session))))

/-- The winner of an election (R333). -/
def bestClaim : List Claim → Option Claim
  | [] => none
  | c :: rest => match bestClaim rest with
    | none => some c
    | some b => if b.above c then some b else some c

/-- The class of the deal that a session holds: Secure Dealer if it is secure (R420). -/
def Device.dealerClass (d : Device) (s : Nat) : Nat :=
  match sessIx s with
  | some i => if d.link.sessions[i].secure then 2 else 1
  | none => 1

/-- One claimer is answered (R333). -/
def Device.answerClaim (d : Device) (c : Claim) : Device :=
  match sessIx c.session with
  | none => d
  | some i =>
    let r := if d.link.dealer.session = c.session then d.dealerReply else d.dealerRefusal
    d.respond i c.ret r

/-- ELECTION_WINDOW_CLOSE (R333): the highest rank becomes Dealer, every claimer is answered. -/
def Device.closeWindow (d : Device) : Device :=
  match d.link.window with
  | none => d
  | some l =>
    let d := { d with link := { d.link with window := none } }
    match bestClaim l with
    | none => d
    | some w =>
      let rec' : DealerRec := { session := w.session, hostId := w.hostId, priority := w.priority
                                cls := d.dealerClass w.session, epoch := d.nextEpoch }
      l.foldl Device.answerClaim (d.setDealer rec' d.link.vacateCause)

def execElectionWindowClose (s : State) : Host.Outcome State Fault Refusal := onDev s Device.closeWindow

/-- A successor that is attached (R334). -/
def Device.successorOk (d : Device) (n : Nat) : Bool :=
  match sessIx n with
  | some i => d.link.sessions[i].attached
  | none => false

/-- The deal passes to a session; its Priority there is stated by no rule (R334, R420). -/
def Device.passDeal (d : Device) (n : Nat) : Device :=
  match sessIx n with
  | none => d
  | some i =>
    let rec' : DealerRec := { session := n, hostId := d.link.sessions[i].hostId, priority := Config.unstated d.free % 256
                              cls := d.dealerClass n, epoch := d.nextEpoch }
    d.nextFree.setDealer rec' d.link.vacateCause

/-- YIELD (R334; log entry 59). -/
def Device.yieldDeal (d : Device) (h : Hdr) (successor : Nat) : Device :=
  d.receive h 10 fun i d =>
    d.tryRequest (d.dealerChecks i ++ [(decide (successor ≠ 0) && !d.successorOk successor, 7, 1)]) fun d =>
      let d := if successor = 0 then d.vacate .yield else d.passDeal successor
      (d, some (.ok [d.link.dealer.epoch]))

def execYield (h : Hdr) (successor : Nat) (s : State) : Host.Outcome State Fault Refusal := onDev s fun d => d.yieldDeal h successor

/-- HEARTBEAT_LAPSE (R335): runs go on; supervision is suspended in Standby and Dormant (R332). -/
def execHeartbeatLapse (s : State) : Host.Outcome State Fault Refusal :=
  onDev s fun d => if d.answering && decide (d.link.dealer.session ≠ 0) then d.vacate .heartbeat else d

/-! ### Frames and links (R319, R330, R341, R342) -/

/-- LINK_DOWN (R330). -/
def execLinkDown (p : PortIx) (s : State) : Host.Outcome State Fault Refusal :=
  onDev s fun d => if d.linkUp p then d.linkLost p else d

/-- The LinkState that auto-negotiation selects, the highest mode that both sides have (R317, R341): 1000BASE-KX in Standby and Dormant,
25GBASE-KR and 10GBASE-KR elsewhere; 0 where there is none. -/
def offerLink (o : LinkOffer) (awake : Bool) : Nat :=
  if awake then (if o.kr25g then 3 else if o.kr10g then 2 else 0) else if o.kx1g then 1 else 0

/-- The FEC of a link (R317, R341; log entry 58). -/
def offerFec (o : FecOffer) (link : Nat) : Nat :=
  if link = 3 ∧ o.rsFec then 2 else if (link = 3 ∨ link = 2) ∧ o.baseR then 1 else 0

/-- LINK_UP (R317, R330, R332): auto-negotiation and training have run; answers that waited for the port are sent. -/
def Device.linkRises (d : Device) (p : PortIx) (o : LinkOffer) (f : FecOffer) : Device :=
  let awake := d.answering
  let link := offerLink o awake
  if !d.modes.porst || d.linkUp p || (awake && !d.link.ports[p].pllLocked) || decide (link = 0) then d
  else
    let d := d.onPort p fun x => { x with link, fec := offerFec f link }
    { d with link := (List.finRange 16).foldl Link.release d.link }

def execLinkUp (p : PortIx) (o : LinkOffer) (f : FecOffer) (s : State) : Host.Outcome State Fault Refusal :=
  onDev s fun d => d.linkRises p o f

/-- NodeAddress.Address (R324, R342). -/
def specNode (v : Nat) : WSpec where
  len := 4
  value := [inRangeN v 0 262143]
  apply d := { d with link := { d.link with nodeAddress := v, assigned := true } }

/-- NODE_ADDRESS_WRITE (R342). -/
def execNodeAddressWrite (h : Hdr) (w : Data) (s : State) : Host.Outcome State Fault Refusal :=
  onDev s fun d => d.writeReg h (chipTarget 0x1100 1) w fun _ _ => specNode w.val

/-- ThenkoPort.SessionTimeout (R341). -/
def specSessionTimeout (v : Nat) : WSpec where
  len := 4
  value := [inRangeN v 100 600000]
  apply d := { d with link := { d.link with sessionTimeout := v } }

/-- HeartbeatTimeout (R345). -/
def specHeartbeat (v : Nat) : WSpec where
  len := 4
  value := [inRangeN v 5 10000]
  apply d := { d with link := { d.link with heartbeatTimeout := v } }

/-! ### PTP (R15, R338, R346) -/

/-- No master is selected any more (log entry 60). -/
def Ptp.unselect (x : Ptp) : Ptp := { x with state := if x.enable % 4 = 0 then .disabled else .listening, port := 0xFF }

/-- PTP_MESSAGE (R338): the selected master's message is taken, and steers the Keeper time once the clock is Slave (log
entry 60). -/
def Device.ptpMessage (d : Device) (p : PortIx) (domain gm : Nat) (offset : Int) (delay : Nat) (calibrated : Bool) : Device :=
  if !d.linkUp p then d
  else if !d.answering then d.discard p
  else if !bitAt d.ptp.enable p.val || decide (domain ≠ d.ptp.domain) then d
  else
    let d := { d with ptp := { d.ptp with state := if calibrated then PtpState.slave else .uncalibrated
                                          port := p.val, gm := gm, offset := offset, delay := delay } }
    if calibrated then ({ d with keeper2 := Config.steer d.free d.keeper2 offset }).nextFree else d

def execPtpMessage (p : PortIx) (domain gm : Nat) (offset : Int) (delay : Nat) (calibrated : Bool) (s : State) :
    Host.Outcome State Fault Refusal := onDev s fun d => d.ptpMessage p domain gm offset delay calibrated

/-- PTP_MASTER_LOST (R338): the Keeper time runs free. -/
def execPtpMasterLost (s : State) : Host.Outcome State Fault Refusal :=
  onDev s fun d =>
    if d.ptp.state = .slave ∨ d.ptp.state = .uncalibrated then { d with ptp := d.ptp.unselect } else d

/-- PtpStatus.Enable and Domain (R346). -/
def specPtp (sub v : Nat) : WSpec where
  len := 1
  value := if sub = 3 then [inRangeN v 0 127] else []
  apply d :=
    let x := d.ptp
    let y := if sub = 3 then { x with domain := v } else { x with enable := v % 4 }
    let lost := if sub = 3 then decide (v ≠ x.domain) else decide (x.port < 2) && !bitAt v x.port
    { d with ptp := if lost ∨ y.enable = 0 ∨ y.state = .disabled then y.unselect else y }

/-! ### Scheduled starts and the SYNC bus (R339, R340, R347, R348) -/

/-- A run is Armed or Running (R339, R340). -/
def Run.armedOrRunning (x : Run) : Bool := decide (x.state = .armed) || decide (x.state = .running) || decide (x.state = .holding)
/-- A selected region's run is Armed or Running (R339; log entry 42). -/
def Device.selectedBusy (d : Device) : Bool :=
  regionsAll.any fun r => bitAt d.sched.regions r.val && d.regions[d.leader r].run.armedOrRunning

/-- ScheduledStart with a value written; Status is cleared (R347). -/
def Sched.put (x : Sched) (sub v : Nat) : Sched :=
  let x := { x with started := false, late := false, freeRunning := false }
  match sub with
  | 1 => { x with time := v }
  | 2 => { x with regions := v % 4 }
  | _ => { x with source := v }

/-- A write of ScheduledStart (R339, R347). -/
def specSched (sub v : Nat) (d : Device) : WSpec where
  len := if sub = 1 then 8 else 1
  access := [(decide (sub = 4 ∨ sub = 5), 3, 1), subCheck [1, 2, 3, 4, 5] sub]
  state := [(d.selectedBusy, 5, 3)]
  value := if sub = 3 then [codeCheck v 3] else []
  apply d := { d with sched := d.sched.put sub v }

/-- SCHEDULED_START_WRITE (R339). -/
def execScheduledStartWrite (h : Hdr) (sub : Nat) (w : Data) (s : State) : Host.Outcome State Fault Refusal :=
  onDev s fun d => d.writeReg h (chipTarget 0x1310 sub) w fun _ => specSched sub w.val

/-- Time, Regions and Source as one write (R339). -/
def Device.syncWrite (d : Device) (time regions source : Nat) : Device :=
  { d with sched := ((d.sched.put 1 time).put 2 regions).put 3 source }

/-- The checks of a Sync (R339). -/
def Device.syncChecks (d : Device) (source : Nat) : List Check := [(d.selectedBusy, 5, 3), codeCheck source 3]

/-- SYNC (R339): from the Dealer's session, or broadcast with the Dealer's HostId, which nobody answers. -/
def Device.sync (d : Device) (h : Hdr) (broadcast : Bool) (time regions source hostId : Nat) : Device :=
  if broadcast then
    let mine := decide (d.link.dealer.session ≠ 0) && decide (hostId % 2 ^ 48 = d.link.dealer.hostId)
    if !d.linkUp h.port then d
    else if !d.answering || !arrives h true then d.discard h.port
    else if mine && decide (d.sec.life ≠ .blank) && (firstRefusal (d.syncChecks source)).isNone then d.syncWrite time regions source
    else d
  else
    d.receive h 11 fun i d =>
      d.tryRequest (d.dealerChecks i ++ d.syncChecks source) fun d => (d.syncWrite time regions source, some (.ok []))

def execSync (h : Hdr) (broadcast : Bool) (time regions source hostId : Nat) (s : State) : Host.Outcome State Fault Refusal :=
  onDev s fun d => d.sync h broadcast time regions source hostId

/-- Any region's run is Armed or Running (R348). -/
def Device.anyArmed (d : Device) : Bool := regionsAll.any fun r => d.regions[d.leader r].run.armedOrRunning

/-- SyncBus.Role and Deskew (R348). -/
def specSyncBus (sub v : Nat) (d : Device) : WSpec where
  len := if sub = 2 then 2 else 1
  state := [(d.anyArmed, 5, 3)]
  value := if sub = 1 then [codeCheck v 3] else []
  apply d := { d with sched := if sub = 1 then { d.sched with role := v } else { d.sched with deskew := v } }

/-- SyncBus.Command (R348): the master drives a rising edge. -/
def specSyncCmd (v : Nat) (d : Device) : WSpec where
  len := 1
  state := [(decide (d.sched.role ≠ 2), 5, 3)]
  value := [codeCheck v 3]
  apply d := { d with sched :=
    if v = 1 then { d.sched with drove0 := d.sched.drove0 + 1 }
    else if v = 2 then { d.sched with drove1 := d.sched.drove1 + 1 } else d.sched }

/-- SYNC_PULSE (R340, R348). -/
def execSyncPulse (h : Hdr) (s : State) : Host.Outcome State Fault Refusal :=
  onDev s fun d => d.writeCmd h (chipTarget 0x1320 3) 1 fun _ => specSyncCmd 1
/-- SYNC_STOP (R340, R348). -/
def execSyncStop (h : Hdr) (s : State) : Host.Outcome State Fault Refusal :=
  onDev s fun d => d.writeCmd h (chipTarget 0x1320 3) 2 fun _ => specSyncCmd 2

end Sys2Proof.Machine
end

