-- ==== Sys2Proof/Machine/Setup.lean ====
section
/-!
DEFINITION. What is written before a run: the region arrangement, timing sets, the entry of the program, the partition of the
Comb, StallPolicy and ConditionMask (R25, R26, R46, R51, R65, R70, R77, R86).
-/
namespace Sys2Proof.Machine

/-! ### Coupling (R25, R26) -/

/-- Every admission result is no longer current. -/
def Device.invalidateBoth (d : Device) : Device := (d.invalidate 0).invalidate 1

/-- A write of RegionMode.Coupling. -/
def specCoupling (v : Nat) (d : Device) : WSpec where
  len := 1
  state := [(d.anyBusy, 5, 1)]
  value := [codeCheck v 2]
  apply d :=
    let new := decide (v = 1)
    if d.modes.coupled = new then d else ({ d with modes := { d.modes with coupled := new } }).invalidateBoth

/-- COUPLING_WRITE (R26). -/
def execCouplingWrite (h : Hdr) (w : Data) (s : State) : Host.Outcome State Fault Refusal :=
  onDev s fun d => d.writeReg h (chipTarget 0x2010 3) w fun _ => specCoupling w.val

/-! ### Timing sets (R46, R51) -/

/-- The region may not be written because it, or in coupled operation either region, is in Run or Calibrate. -/
def Device.runCheck (d : Device) (r : RegionIx) : Check := (if d.modes.coupled then d.anyBusy else d.regions[r].busyMode, 5, 1)

/-- One timing set changes and is validated (R51). -/
def Device.onSet (d : Device) (r : RegionIx) (k : Nat) (f : TimingSet → TimingSet) : Device :=
  (d.onRegion r fun x =>
    { x with sets := vmap (fun i (t : TimingSet) => if i = k then (f t).revalidate Config.grade32 else t) x.sets }).invalidate r

/-- A write of a timing set's Period. -/
def specPeriod (r : RegionIx) (k v : Nat) (d : Device) : WSpec where
  len := 8
  state := [d.busyCheck r]
  apply d := d.onSet r k fun t => { t with period := v }

/-- A write of a cell entry. -/
def specCellTiming (r : RegionIx) (k p v : Nat) (d : Device) : WSpec where
  len := 40
  state := [d.busyCheck r]
  apply d := d.onSet r k fun t => { t with cells := vmap (fun i e => if i = p then CellEntry.ofNat v else e) t.cells }

/-- TIMING_SET_PERIOD_WRITE (R51). -/
def execTimingSetPeriodWrite (h : Hdr) (r : RegionIx) (k : WaggleIx) (w : Data) (s : State) : Host.Outcome State Fault Refusal :=
  onDev s fun d => d.writeReg h (regionTarget r (0x100 + k.val) 1) w fun _ => specPeriod r k w.val
/-- CELL_TIMING_WRITE (R51). -/
def execCellTimingWrite (h : Hdr) (r : RegionIx) (k p : WaggleIx) (w : Data) (s : State) : Host.Outcome State Fault Refusal :=
  onDev s fun d => d.writeReg h (regionTarget r (0x100 + k.val) (0x40 + p.val)) w fun _ => specCellTiming r k p w.val

/-! ### The program's entry, the Comb, StallPolicy, ConditionMask -/

/-- A write of EntryIndex (R65). -/
def specEntry (r : RegionIx) (v : Nat) : WSpec where
  len := 2
  value := [inRangeN v 0 16383]
  apply d :=
    if d.regions[r].entry = v then d else (d.onRegion r fun x => { x with entry := v }).invalidate r

/-- ENTRY_INDEX_WRITE (R65). -/
def execEntryIndexWrite (h : Hdr) (r : RegionIx) (w : Data) (s : State) : Host.Outcome State Fault Refusal :=
  onDev s fun d => d.writeReg h (regionTarget r 0x10 2) w fun _ _ => specEntry r w.val

/-- A write of AnchoredEntries (R70). -/
def specAnchored (r : RegionIx) (v : Nat) (d : Device) : WSpec where
  len := 4
  state := [d.runCheck r]
  value := [(decide (v % 4096 ≠ 0 ∨ 491520 < v), 7, 1)]
  apply d := (d.onRegion r fun x => { x with anchored := v, combData := [], comb := .invalid }).invalidate r

/-- ANCHORED_ENTRIES_WRITE (R70). -/
def execAnchoredEntriesWrite (h : Hdr) (r : RegionIx) (w : Data) (s : State) : Host.Outcome State Fault Refusal :=
  onDev s fun d => d.writeReg h (regionTarget r 0x20 1) w fun _ => specAnchored r w.val

/-- A write of StallPolicy (R86). -/
def specStallPolicy (r : RegionIx) (v : Nat) (d : Device) : WSpec where
  len := 4
  state := [d.busyCheck r]
  value := [(decide (field v 8 8 = 0), 7, 1)]
  apply d := (d.onRegion r fun x => { x with stallFold := bitAt v 0, restartDepth := field v 8 8 }).invalidate r

/-- STALL_POLICY_WRITE (R86). -/
def execStallPolicyWrite (h : Hdr) (r : RegionIx) (w : Data) (s : State) : Host.Outcome State Fault Refusal :=
  onDev s fun d => d.writeReg h (regionTarget r 0x30 0) w fun _ => specStallPolicy r w.val

/-- A write of a ConditionMask (R77). -/
def specMask (r : RegionIx) (sub v : Nat) (d : Device) : WSpec where
  len := 8
  access := [subCheck (List.range' 1 8) sub]
  state := [d.busyCheck r]
  apply d := d.onRegion r fun x =>
    { x with masks := vmap (fun i m => if i + 1 = sub then BitVec.ofNat 64 v else m) x.masks }

end Sys2Proof.Machine
end

