-- ==== Sys2Proof/Machine/Frames.lean ====
section
/-!
DEFINITION. The pin link: the down and up frames, and a vector as it reaches the cells (R20, R21, R41).
-/
namespace Sys2Proof.Machine

/-- A vector reaches the pin die (R20, R41; log entry 40). -/
def Device.applyVector (d : Device) (r : RegionIx) (v : VecRec) : Device :=
  let x := d.regions[r]
  let set := x.set' v.tset
  let count := fun (d : Device) => ((cellsOf r).map fun c => d.cells[c].strobes.length).sum
  let before := count d
  let unit := fun (i : Nat) => if h : i < 128 then d.judge ⟨i, h⟩ else {}
  let d := if v.hold then d else
    { d with cells := vmap (fun i c =>
        if inRegion r i then c.place (unit i) (set.entry (i % 64)) set.period v (symbolAt v.symbols (i % 64)) else c) d.cells }
  let n := count d - before
  d.onRegion r fun x => { x with vecs := x.vecs.map fun w =>
    if w.order = v.order then { w with applied := true, pending := n, returned := decide (n = 0) } else w }

/-! ### Frames (R20, R21) -/

/-- The pin link of a region runs (log entry 40). -/
def Device.linkRuns (d : Device) (r : RegionIx) : Bool := d.modes.clocks && d.modes.coreDie && decide (d.regions[r].die = .active)

/-- The vectors of the next down frame: those that start in one FCLK cycle (R20; log entry 40). -/
def Region.nextFrame (x : Region) : List VecRec :=
  match x.vecs.filter (!·.applied) with
  | [] => []
  | v :: rest => ((v :: rest).filter fun w => w.start / Config.fclkFu = v.start / Config.fclkFu).take 4

/-- The 18 words of a down frame that carries some vectors (R20; log entry 40): words 4 i to 4 i + 3 the vector of place i, words 16
and 17 for each place timing-set index, hold flag, start offset and whether a vector is there. The configuration side channel is no
part of the model's frame (R19). -/
def frameWords (l : List VecRec) : Nat :=
  let v := fun (i : Nat) => l[i]?
  ((List.range 4).map fun i => (v i).elim 0 fun x =>
    x.symbols.toNat * 2 ^ (256 * i) +
      (x.tset % 64 + b2n x.hold * 2 ^ 6 + x.start % Config.fclkFu * 2 ^ 7 + 2 ^ 20) * 2 ^ (1024 + 32 * i)).sum

/-- A vector as the pin die takes it from a down frame. -/
def frameVector (w i : Nat) (v : VecRec) : VecRec :=
  { v with symbols := BitVec.ofNat 256 (w / 2 ^ (256 * i)), tset := field w (1024 + 32 * i) 6, hold := bitAt w (1030 + 32 * i) }

/-- A frame of `n` D72 codewords crosses the link under errors that strike it (R20, R21, R252, R253). -/
def crossLink (n words data chk : Nat) : Recovered := recover n noFold (words ^^^ data) (protect n noFold words ^^^ chk)

/-- Corrected errors of a link are counted in the region collector (R21). -/
def Device.linkCorrected (d : Device) (r : RegionIx) (n : Nat) : Device := if n = 0 then d else d.raise (.region r) 0

/-- DOWN_FRAME: the vectors of one FCLK cycle cross the link in 18 codewords. A frame lost to an uncorrectable error parks the
drivers by the Fold it makes, and none of its vectors is applied (R20, R21; log entry 40). -/
def Device.downFrame (d : Device) (r : RegionIx) (data : BitVec 1152) (chk : BitVec 144) : Device :=
  if !d.linkRuns r then d
  else
    let l := d.regions[r].nextFrame
    let w := crossLink 18 (frameWords l) data.toNat chk.toNat
    let d := d.linkCorrected r w.corrected
    if w.ok then l.zipIdx.foldl (fun d (v, i) => d.applyVector r (frameVector w.data i v)) d
    else
      let gone := l.map (·.order)
      let d := d.onRegion r fun x => { x with vecs := x.vecs.filter fun v => !gone.contains v.order }
      (d.onCells (inRegion r) fun x => x.drive .off).raise (.region r) 1

/-- Vectors whose masks the next up frame carries (R20, R127). -/
def VecRec.ready (v : VecRec) : Bool := v.applied && decide (v.pending = 0) && !v.returned

/-- The vectors of the next up frame: at most four (R20). -/
def Region.nextUp (x : Region) : List VecRec := (x.vecs.filter VecRec.ready).take 4

/-- The 5 words of an up frame (R20; log entry 40): words 0 to 3 the fail masks, word 4 the cycle tags, the low 16 bits of each
cycle number. Compare-summary flags and cell signals take effect where R75 and the fault rules time them, and are no part of the
model's frame. -/
def upWords (l : List VecRec) : Nat :=
  ((List.range 4).map fun i => (l[i]?).elim 0 fun v =>
    v.failMask.toNat * 2 ^ (64 * i) + v.cycle % 65536 * 2 ^ (256 + 16 * i)).sum

/-- A vector's mask has come back over the up link, or was lost with its frame. -/
def VecRec.back (v : VecRec) (w : Recovered) (i : Nat) : VecRec :=
  { v with returned := true, lost := !w.ok, failMask := if w.ok then BitVec.ofNat 64 (w.data / 2 ^ (64 * i)) else v.failMask }

/-- UP_FRAME: masks come back in 5 codewords, or are lost (R20, R21, R129; log entry 40). -/
def Device.upFrame (d : Device) (r : RegionIx) (data : BitVec 320) (chk : BitVec 40) : Device :=
  if !d.linkRuns r then d
  else
    let l := d.regions[r].nextUp
    let w := crossLink 5 (upWords l) data.toNat chk.toNat
    let d := d.linkCorrected r w.corrected
    let place := fun (v : VecRec) => (l.map (·.order)).idxOf v.order
    let back := fun (v : VecRec) => if place v < l.length then v.back w (place v) else v
    let d := d.onRegion r fun x => { x with vecs := x.vecs.map back }
    if w.ok then d
    else
      let d := d.onTally r fun t => { t with counters := { t.counters with lostMasks := t.counters.lostMasks + l.length } }
      (d.voidRun r).raise (.region r) 2

/-- DOWN_FRAME (R20). -/
def execDownFrame (r : RegionIx) (data : BitVec 1152) (chk : BitVec 144) (s : State) : Host.Outcome State Fault Refusal :=
  onDev s fun d => d.downFrame r data chk
/-- UP_FRAME (R20). -/
def execUpFrame (r : RegionIx) (data : BitVec 320) (chk : BitVec 40) (s : State) : Host.Outcome State Fault Refusal :=
  onDev s fun d => d.upFrame r data chk

end Sys2Proof.Machine
end

