-- ==== Sys2Proof/Machine/Sequence.lean ====
section
/-!
DEFINITION. The sequencer: instructions and the decisions they take, planned and hold vectors, stalls and the stream ring
(R73 to R90, R97 to R99). In coupled operation region A's sequencer acts for both regions (R27).
-/
namespace Sys2Proof.Machine

/-! ### The regions of a run (R27) -/

/-- The regions that a run of region `r` covers (log entry 38). -/
def Device.group (d : Device) (r : RegionIx) : List RegionIx := if d.modes.coupled then [0, 1] else [r]
/-- Region B's sequencer follows in coupled operation and decides nothing (log entry 38). -/
def Device.follows (d : Device) (r : RegionIx) : Bool := d.modes.coupled && decide (r = 1)
/-- Every region of a run changes (log entry 38). -/
def Device.onGroup (d : Device) (r : RegionIx) (f : Region → Region) : Device := (d.group r).foldl (fun d g => d.onRegion g f) d

/-- The clock stands at least at a time, fu: an event of that time has come (log entry 2). -/
def Device.advanceFu (d : Device) (t : Nat) : Device :=
  if d.time < t then d.moveClock t (d.keeper2 + 5 * (t / Config.fclkFu - d.time / Config.fclkFu)) else d

/-! ### Results that enter decisions (R75, R78, R80) -/

/-- A result sets the accumulators of the masks that select its position (R78). -/
def Sequencer.accumulate (q : Sequencer) (masks : Vector (BitVec 64) 8) (x : Result) : Sequencer :=
  let bits := (List.range 8).map fun i => if (masks.toList.getD i 0).getLsbD x.pos then 2 ^ i else 0
  if x.failed then { q with accs := q.accs ||| BitVec.ofNat 8 bits.sum } else q

/-- An iteration owns the vectors from its first on; before that has issued it owns none (R80). -/
def Iteration.owns (k : Iteration) (order : Nat) : Bool :=
  match k.first with
  | some f => decide (f ≤ order) && decide (order < f + k.count)
  | none => false

/-- The iteration that owns a vector learns its result, if the MATCH's mask selects the cell (R80). -/
def Iteration.learn (k : Iteration) (selected : Bool) (x : Result) : Iteration :=
  if selected && k.owns x.order then { k with judged := k.judged || x.judged, failed := k.failed || x.failed } else k

/-- The instruction at the sequencer. -/
def Device.instr (d : Device) (r : RegionIx) : BitVec 128 := fetchInstr (d.prog r) d.regions[d.leader r].seq.cur.pc

/-- A result of region `g` enters decisions of the sequencer of `r`. -/
def Device.enter (d : Device) (r g : RegionIx) (x : Result) : Device :=
  let masks := d.regions[g].masks
  let mine := (masks.toList.getD (iMask (d.instr r)) 0).getLsbD x.pos
  d.onSeq (d.leader r) fun q =>
    { q.accumulate masks x with iterations := q.iterations.map fun k => k.learn mine x }

/-- A result lies the decision lag before the start of the next vector (R75). -/
def Result.due (x : Result) (next : Option Nat) : Bool :=
  match next with | some t => decide (x.closes + Config.decisionLag ≤ t) | none => false

/-- Every result of a region that is due enters decisions. -/
def Device.absorbRegion (r : RegionIx) (d : Device) (g : RegionIx) : Device :=
  let next := d.regions[d.leader r].seq.nextStart
  let l := d.regions[g].lagged
  let d := d.onRegion g fun x => { x with lagged := l.filter fun q => !q.due next }
  (l.filter fun q => q.due next).foldl (fun d q => d.enter r g q) d

/-- Every result that is due takes part in the decision (R75; log entry 38). -/
def Device.absorb (d : Device) (r : RegionIx) : Device := (d.group r).foldl (Device.absorbRegion r) d

/-- FAIL_ACCUMULATOR_SET: the oldest result of a region that is due enters decisions (R78). -/
def Device.accumulateOne (d : Device) (r : RegionIx) : Device :=
  let next := d.regions[d.leader r].seq.nextStart
  match d.regions[r].lagged.find? fun q => q.due next with
  | none => d
  | some q => (d.onRegion r fun x => { x with lagged := x.lagged.erase q }).enter r r q

def execFailAccumulatorSet (r : RegionIx) (s : State) : Host.Outcome State Fault Refusal := onDev s fun d => d.accumulateOne r

/-- Every result of an iteration is in: all its vectors have issued, they have been strobed whole and no result of them waits (R80). -/
def Device.allIn (d : Device) (r : RegionIx) (k : Iteration) : Bool :=
  (match k.first with | some f => decide (f + k.count ≤ d.regions[r].run.issued) | none => false) && (d.group r).all fun g =>
    (d.regions[g].vecs.all fun v => !k.owns v.order || (v.applied && decide (v.pending = 0))) &&
      d.regions[g].lagged.all fun q => !k.owns q.order

/-! ### Deciding an instruction (R73) -/

/-- Instructions are decided from the prefill on (R83, R90). -/
def Run.deciding (x : Run) : Bool :=
  match x.state with
  | .prefill | .armed | .running | .holding => true
  | _ => false

/-- The sequencer decides its next instruction, if that has the opcode and the one before has issued its vectors. -/
def Device.deciding (d : Device) (r : RegionIx) (op : SeqOp) (act : Device → BitVec 128 → Device) : Device :=
  let x := d.regions[r]
  if d.follows r || x.seq.busy || !x.run.deciding || decide (seqOp (d.instr r) ≠ some op) then d else act d (d.instr r)

/-- Control goes on past the instruction. -/
def Device.goPast (d : Device) (r : RegionIx) (w : BitVec 128) (taken : Bool) : Device :=
  d.onSeq r fun q => { q with cur := q.cur.past w taken }

/-- An instruction's vectors are to issue next; on the new path after a redirect, DRAM vectors wait for the ring (R84). -/
def Device.startSegment (d : Device) (r : RegionIx) (s : Segment) : Device :=
  d.onSeq r fun q =>
    let q := { q with seg := s, busy := true }
    if !q.redirected then q
    else { q with redirected := false, hold := if isAnchored s.address then q.hold else some .redirect }

/-- A path that was not predicted: both regions' prefetchers start again (R84, R87). -/
def Device.redirectRun (d : Device) (r : RegionIx) : Device := (d.group r).foldl Device.redirect d

/-- PLAY (R73). -/
def Device.play (d : Device) (r : RegionIx) (w : BitVec 128) : Device :=
  d.startSegment r { op := .play, index := d.regions[r].seq.cur.pc, address := iAddr w, tset := iTset w, left := iCount w }

/-- REPEAT (R73). -/
def Device.repeat' (d : Device) (r : RegionIx) (w : BitVec 128) : Device :=
  d.startSegment r { op := .repeat, index := d.regions[r].seq.cur.pc, address := iAddr w, tset := iTset w, left := iCount w }

/-- MATCH at the start of an iteration or after the last one (R80). -/
def Device.match' (d : Device) (r : RegionIx) (w : BitVec 128) : Device :=
  let d := d.absorb r
  let q := d.regions[r].seq
  let ended := fun (ok : Bool) (d : Device) => d.onGroup r fun x => { x with seq := { x.seq with matched := ok, iterations := [] } }
  if q.iterations.any fun k => d.allIn r k && k.judged && !k.failed then
    (ended true d).goPast r w false
  else if q.iterations.length = iCount w then
    ((ended false d).onSeq r fun q => { q with cur := { q.cur with pc := iTarget w } }).redirectRun r
  else
    (d.onSeq r fun q => { q with iterations := q.iterations ++ [{ count := iMatch w }] }).startSegment r
      { op := .matchOp, index := q.cur.pc, address := iAddr w, tset := iTset w, left := iMatch w }

/-- The latch of a channel is seen set by a decision for the next vector (R76). -/
def Sequencer.sees (q : Sequencer) (k : WaggleIx) : Bool :=
  match q.latches[k], q.nextStart with
  | some t, some n => decide (t + Config.eventLag ≤ n)
  | _, _ => false

/-- A latch is cleared. -/
def Sequencer.clearLatch (q : Sequencer) (k : WaggleIx) : Sequencer := { q with latches := q.latches.set k none }

/-- Whether the condition of a BRANCH holds (R79). -/
def Sequencer.condition (q : Sequencer) (w : BitVec 128) : Bool :=
  match iCond w with
  | 0 => q.accs.getLsbD (iMask w)
  | 1 => !q.accs.getLsbD (iMask w)
  | 2 => q.sees (iChan w)
  | 3 => !q.sees (iChan w)
  | 4 => q.matched
  | 5 => !q.matched
  | _ => false

/-- What a BRANCH clears (R76, R78, R79). -/
def Sequencer.branched (q : Sequencer) (w : BitVec 128) : Sequencer :=
  match iCond w with
  | 0 | 1 => { q with accs := q.accs &&& ~~~ BitVec.ofNat 8 (2 ^ iMask w) }
  | 2 | 3 => if q.sees (iChan w) then q.clearLatch (iChan w) else q
  | _ => q

/-- BRANCH (R79, R84). A condition on an event needs the start of the next vector. -/
def Device.branch (d : Device) (r : RegionIx) (w : BitVec 128) : Device :=
  let d := d.absorb r
  let q := d.regions[r].seq
  if (iCond w = 2 ∨ iCond w = 3) ∧ q.nextStart = none then d
  else
    let taken := q.condition w
    let d := (d.onSeq r fun q => q.branched w).goPast r w taken
    if taken = iHint w then d else d.redirectRun r

/-- WAIT at a repetition boundary (R81). -/
def Device.wait (d : Device) (r : RegionIx) (w : BitVec 128) : Device :=
  let q := d.regions[r].seq
  let again := decide (q.seg.op = .wait) && decide (q.seg.index = q.cur.pc)
  let n := if again then q.seg.issued else 0
  let done := fun (q : Sequencer) => { q with seg := {} }
  if q.nextStart = none then d
  else if q.sees (iChan w) then (d.onSeq r fun q => done (q.clearLatch (iChan w))).goPast r w false
  else if iCount w ≠ 0 ∧ n = iCount w then
    (d.onSeq r fun q => { done q with cur := { q.cur with pc := iTarget w } }).redirectRun r
  else
    d.startSegment r { op := .wait, index := q.cur.pc, address := iAddr w, tset := iTset w, left := 1, issued := n }

/-- SIGNAL (R82). -/
def Device.signal (d : Device) (r : RegionIx) (w : BitVec 128) : Device :=
  (d.onSeq r fun q => { q with signals := q.signals ||| BitVec.ofNat 64 (2 ^ (iChan w).val) }).goPast r w false

/-- The run issues no further vector; its spilled events complete (R62, R97). -/
def Device.startDrain (d : Device) (r : RegionIx) (reason : Nat) : Device :=
  d.onGroup r fun x =>
    { x with run := { x.run with state := .draining, drainReason := reason }
             seq := { x.seq with busy := false, hold := none, nextStart := none } }

/-- HALT (R67, R97). -/
def Device.halt (d : Device) (r : RegionIx) : Device :=
  let x := d.regions[r]
  if x.run.state = .running ∨ x.run.state = .holding then d.startDrain r 1 else d

def execSeqHalt (r : RegionIx) (s : State) : Host.Outcome State Fault Refusal := onDev s fun d => d.deciding r .halt fun d _ => d.halt r
def execSeqPlay (r : RegionIx) (s : State) : Host.Outcome State Fault Refusal := onDev s fun d => d.deciding r .play fun d w => d.play r w
def execSeqRepeat (r : RegionIx) (s : State) : Host.Outcome State Fault Refusal :=
  onDev s fun d => d.deciding r .repeat fun d w => d.repeat' r w
def execSeqLoop (r : RegionIx) (s : State) : Host.Outcome State Fault Refusal :=
  onDev s fun d => d.deciding r .loop fun d w => d.goPast r w false
def execSeqEndloop (r : RegionIx) (s : State) : Host.Outcome State Fault Refusal :=
  onDev s fun d => d.deciding r .endloop fun d w => d.goPast r w false
def execSeqMatch (r : RegionIx) (s : State) : Host.Outcome State Fault Refusal :=
  onDev s fun d => d.deciding r .matchOp fun d w => d.match' r w
def execSeqJump (r : RegionIx) (s : State) : Host.Outcome State Fault Refusal :=
  onDev s fun d => d.deciding r .jump fun d w => d.goPast r w true
def execSeqBranch (r : RegionIx) (s : State) : Host.Outcome State Fault Refusal :=
  onDev s fun d => d.deciding r .branch fun d w => d.branch r w
def execSeqCall (r : RegionIx) (s : State) : Host.Outcome State Fault Refusal :=
  onDev s fun d => d.deciding r .call fun d w => d.goPast r w true
def execSeqReturn (r : RegionIx) (s : State) : Host.Outcome State Fault Refusal :=
  onDev s fun d => d.deciding r .ret fun d w => d.goPast r w true
def execSeqWait (r : RegionIx) (s : State) : Host.Outcome State Fault Refusal :=
  onDev s fun d => d.deciding r .wait fun d w => d.wait r w
def execSeqSignal (r : RegionIx) (s : State) : Host.Outcome State Fault Refusal :=
  onDev s fun d => d.deciding r .signal fun d w => d.signal r w

/-! ### The stream ring (R83 to R85) -/

/-- The ring entry of a DRAM vector, if it has arrived and stands next. -/
def Region.ringEntry (x : Region) (a : Nat) : Option RingEntry :=
  match x.fetch.ring with
  | e :: _ => if e.address = a then some e else none
  | [] => none

/-- The regions whose ring lacks the vector that is due. -/
def Device.late (d : Device) (r : RegionIx) : List RegionIx :=
  let q := d.regions[r].seq
  if q.playsDram then (d.group r).filter fun g => (d.regions[g].ringEntry q.seg.address).isNone else []

/-- The holds may end: every ring has its refill, and the vector that is due is decided (R84, R85, R87). -/
def Device.holdOver (d : Device) (r : RegionIx) : Bool :=
  d.regions[r].seq.busy && (d.group r).all fun g => d.refilled g

/-- Holding vectors ends (R97; log entry 37). -/
def Device.endHold (d : Device) (r : RegionIx) : Device :=
  (d.onSeq r fun q => { q with hold := none }).onGroup r fun x =>
    { x with run := if x.run.state = RunState.holding then { x.run with state := .running } else x.run }

/-- A burst enters the ring: each vector takes the next entry of the Comb behind the anchored area, with the check bits the part
computes there (R36, R69, R83; log entry 39). -/
def Region.enterRing (x : Region) (b : List RingEntry) : Region :=
  b.foldl (fun x e =>
    let slot := x.anchored + x.fetch.entered % x.ringEntries
    { x with fetch := { x.fetch with ring := x.fetch.ring ++ [{ e with slot, chk := (CombEntry.make slot e.data).chk }]
                                     entered := x.fetch.entered + 1 } }) x

/-- RING_ENTRY_ARRIVAL: the oldest burst that has been read enters the ring (R83). -/
def Device.ringArrival (d : Device) (r : RegionIx) : Device :=
  match d.regions[r].fetch.returned with
  | [] => d
  | b :: rest =>
    let d := d.onRegion r fun x => ({ x with fetch := { x.fetch with returned := rest } }).enterRing b
    let k := d.leader r
    if d.regions[k].seq.hold.isSome && d.holdOver k then d.endHold k else d

def execRingEntryArrival (r : RegionIx) (s : State) : Host.Outcome State Fault Refusal := onDev s fun d => d.ringArrival r

/-! ### The vectors themselves (R16, R23, R98, R99) -/

/-- A vector as the sequencer takes it from the Comb: its bits, whether it is unfit to be applied, and whether a bit of it was
corrected (R72). -/
structure Fetched where
  sym : BitVec 256 := 0
  bad : Bool := false
  corrected : Bool := false
  deriving DecidableEq, Repr

/-- An entry of the Comb is read under errors that strike it, and checked (R72, R253). -/
def CombEntry.fetch (c : CombEntry) (e : Nat) (err : CombErr) : Fetched :=
  let w := recover 4 (combFold e) (c.data ^^^ err.data).toNat (c.chk ^^^ err.chk).toNat
  { sym := BitVec.ofNat 256 w.data, bad := !w.ok, corrected := decide (w.corrected ≠ 0) }

/-- The half of a burst that holds a vector. -/
def vectorHalf (a v : Nat) : BitVec 256 := BitVec.ofNat 256 (v / 2 ^ (256 * (a % 2)))

/-- What a play of a rewritten DRAM vector may find: every former contents that no fence has made past, oldest first, and the
newest; none stands for contents that were never written (R99; log entry 39). -/
def Device.contents (d : Device) (r : RegionIx) (a : Nat) : List (Option (BitVec 256)) :=
  let m := d.regions[r].dram
  let l := m.rewritten.filter fun x => x.1 = a / 2
  if l = [] then [] else l.map (fun x => x.2.1.map fun v => vectorHalf a v.toNat) ++ [some (vectorHalf a (m.latest r (a / 2)))]

/-- A ring entry as it is played. Where its vector has been rewritten, each play of each region takes one of the contents by a free
value of its own (R99; log entry 39). -/
def Device.ringFetch (d : Device) (r : RegionIx) (e : RingEntry) (err : CombErr) : Fetched :=
  let l := d.contents r e.address
  let read := fun (c : CombEntry) => let q := c.fetch e.slot err; { q with bad := q.bad || e.bad }
  if l = [] ∨ e.bad then read { data := e.data, chk := e.chk }
  else match l.getD (Config.plays (2 * d.free + r.val) % l.length) none with
    | some v => read (CombEntry.make e.slot v)
    | none => { bad := true }

/-- What a region's pins get of the vector that is due under errors that strike its Comb entry (R72; log entry 39). -/
def Device.fetchVector (d : Device) (r g : RegionIx) (err : CombErr) : Fetched :=
  let q := d.regions[r].seq
  let a := q.seg.address
  if isAnchored a then (d.regions[g].combAt (anchorEntry a)).fetch (anchorEntry a) err
  else match d.regions[g].ringEntry a with
    | some e => d.ringFetch g e err
    | none => { bad := true }

/-- The instruction kind that a fail record names (R130). -/
def SeqOp.recordKind (o : SeqOp) : Nat :=
  match o with | .repeat => 1 | .matchOp => 2 | .wait => 3 | _ => 0

/-- What one issue is: where the vector comes from, and for a hold vector why. -/
structure Issue where
  index : Nat
  address : Nat
  tset : Nat
  period : Nat
  kind : Nat
  hold : Option HoldKind
  /-- The vectors of region A and region B. -/
  a : Fetched := {}
  b : Fetched := {}
  deriving DecidableEq, Repr

/-- The vector of a region. -/
def Issue.of (q : Issue) (r : RegionIx) : Fetched := if r = 0 then q.a else q.b

/-- The run record past one more vector (R16, R98). A hold vector leaves InstructionIndex at the instruction of the last planned vector:
the rules do not say which instruction a hold vector belongs to (log entry 37). -/
def Run.issue (x : Run) (q : Issue) : Run :=
  let cycle := if x.issued = 0 then 0 else (x.cycle + 1) % 2 ^ 48
  { x with cycle, issued := x.issued + 1
           wraps := if cycle = 0 ∧ x.issued ≠ 0 then x.wraps + 1 else x.wraps
           planned := if q.hold = none then x.planned + 1 else x.planned
           holds := if q.hold = none then x.holds else x.holds + 1
           index := if q.hold = none then q.index else x.index
           state := if q.hold = none then .running else .holding }

/-- StallCount past one more vector (R88). -/
def Stalls.issue (x : Stalls) (hold : Option HoldKind) (cycle : Nat) : Stalls :=
  match hold with
  | none => x
  | some .redirect => { x with redirectHolds := x.redirectHolds + 1 }
  | some .stall => { x with stallHolds := x.stallHolds + 1, firstCycle := x.firstCycle.or (some cycle) }

/-- The vector issues in one region of the run, at a start. -/
def Device.issueIn (q : Issue) (start : Nat) (d : Device) (r : RegionIx) : Device :=
  let was := d.regions[r].run
  let d := d.onRegion r fun x =>
    let run := x.run.issue q
    { x with run := run
             stalls := x.stalls.issue q.hold run.cycle
             tally := x.tally.issued (start / Config.fclkFu) run.cycle was.issued
             seq := { x.seq with nextStart := some (start + q.period), lastStart := start, lastPeriod := q.period, lastTset := q.tset }
             vecs := x.vecs ++ [{ cycle := run.cycle, wraps := run.wraps, index := q.index, address := q.address, tset := q.tset,
                                  kind := q.kind, hold := q.hold.isSome, symbols := (q.of r).sym, start := start, period := q.period,
                                  order := was.issued }] }
  let run := d.regions[r].run
  if run.wraps ≠ was.wraps then d.addNote r.val 5 (run.index % 2 ^ 14 + run.wraps % 65536 * 2 ^ 14) else d

/-- The start of cycle 0 at the ball (R159, R229, R234, R285). -/
def Device.cycleZero (start : Nat) (dom : Domain) (d : Device) (r : RegionIx) : Device :=
  let d := d.onCells (inRegion r) fun x => x.runArm (16 * start : Nat)
  let d := { d with blocks := vmap (fun i (x : Block) => if i / 4 = r.val then x.ddsTrigger 2 else x) d.blocks }
  (d.runBlank r).sourceEvent (0x01 + r.val) dom

/-- One vector is issued and starts at the ball (R23). -/
def Device.issue (d : Device) (r : RegionIx) (q : Issue) : Device :=
  let start := d.regions[r].seq.nextStart.getD d.time
  let first := decide (d.regions[r].run.issued = 0)
  let d := (d.group r).foldl (Device.issueIn q start) (d.advanceFu start)
  let d := if first then (d.group r).foldl (Device.cycleZero start (d.runDomain r)) d else d
  d.fireSignals r

/-- A reserved code that reaches a cell sets its fault source (R45; log entry 39). -/
def Device.reservedSymbols (d : Device) (r : RegionIx) (tset : Nat) (sym : BitVec 256) : Device :=
  let set := d.regions[r].set' tset
  ((List.range 64).filter fun p => (set.entry p).reservedFor (symbolAt sym p)).foldl
    (fun d p => d.raise (.cell (regionCell r p)) 0) d

/-- A vector that fails its check is not applied: the region Folds (R72). One that a bit was corrected in is counted. -/
def Device.vectorChecks (q : Issue) (d : Device) (r : RegionIx) : Device :=
  if (q.of r).bad then
    let n := d.regions[r].run.issued
    (d.onRegion r fun x => { x with vecs := x.vecs.filter fun v => v.order + 1 ≠ n }).raise (.region r) 4
  else
    let d := if (q.of r).corrected then d.raise (.region r) 3 else d
    d.reservedSymbols r q.tset (q.of r).sym

/-- The segment past one more vector (R73, R83). -/
def Segment.past (s : Segment) : Segment :=
  { s with left := s.left - 1, issued := s.issued + 1
           address := if s.op = .play ∨ s.op = .matchOp then s.address + 1 else s.address }

/-- The sequencer past one more planned vector: with the last of a PLAY or REPEAT control goes on. -/
def Sequencer.past (q : Sequencer) : Sequencer :=
  let s := q.seg.past
  let q := { q with seg := s, busy := decide (s.left ≠ 0) }
  if s.left = 0 ∧ (s.op = .play ∨ s.op = .repeat) then { q with cur := { q.cur with pc := q.cur.pc + 1 } } else q

/-- The first vector of an iteration of MATCH has issued: the iteration begins there (R80). -/
def Sequencer.firstOfIteration (q : Sequencer) (order : Nat) : Sequencer :=
  if q.seg.op = .matchOp ∧ q.seg.issued = 0 then
    { q with iterations := q.iterations.map fun k => { k with first := k.first.or (some order) } }
  else q

/-- A ring entry is freed when its vector has issued, that of a REPEAT with the last repetition (R83). -/
def Prefetch.freeOne (f : Prefetch) (s : Segment) : Prefetch :=
  if isAnchored s.address || (decide (s.op = .repeat) && decide (1 < s.left)) then f else { f with ring := f.ring.drop 1 }

/-- The planned vector that is due issues in every region of the run. -/
def Device.issuePlanned (d : Device) (r : RegionIx) (own other : CombErr) : Device :=
  let s := d.regions[r].seq.seg
  let strike := fun (g : RegionIx) => if g = r then own else other
  let q : Issue := { index := s.index, address := s.address, tset := s.tset, period := (d.regions[r].set' s.tset).period
                     kind := s.op.recordKind, hold := none, a := d.fetchVector r 0 (strike 0), b := d.fetchVector r 1 (strike 1) }
  let order := d.regions[r].run.issued
  let d := (d.issue r q).nextFree
  let d := d.onGroup r fun x =>
    { x with fetch := x.fetch.freeOne s
             run := if s.op = .matchOp ∧ s.issued = 0 then { x.run with lastMatch := d.regions[r].seq.iterations.length } else x.run }
  let d := d.onSeq r fun q => (q.firstOfIteration order).past
  (d.group r).foldl (Device.vectorChecks q) d

/-- The instruction whose vector is due, or would be once it is decided (R88, R90; log entry 37). -/
def Sequencer.dueIndex (q : Sequencer) : Nat := if q.busy then q.seg.index else q.cur.pc

/-- A hold vector issues in every region of the run: it repeats the set and period of the last vector, or before the first
vector takes those of the vector that is due (R41, R85; log entry 37). -/
def Device.issueHold (d : Device) (r : RegionIx) (k : HoldKind) : Device :=
  let x := d.regions[r]
  let fresh := decide (x.run.issued = 0)
  let tset := if fresh then x.seq.seg.tset else x.seq.lastTset
  d.issue r { index := x.seq.dueIndex, address := 0, tset
              period := if fresh then (x.set' tset).period else x.seq.lastPeriod, kind := 0, hold := some k }

/-- A stall begins: it is counted, with the instruction whose vector was due at the first, and the policy decides
(R85, R87, R88, R90). `late` are the regions that caused it (log entry 37). -/
def Device.stall (d : Device) (r : RegionIx) (late : List RegionIx) : Device :=
  let index := d.regions[r].seq.dueIndex
  let d := (d.group r).foldl (fun (d : Device) (g : RegionIx) => d.onRegion g fun x =>
    { x with stalls := { x.stalls with stalls := satAdd (maxU 32) x.stalls.stalls 1
                                       firstIndex := x.stalls.firstIndex.or (some index)
                                       own := if late.contains g then satAdd (maxU 32) x.stalls.own 1 else x.stalls.own } }) d
  if d.regions[r].stallFold then
    let d := (late.drop 1).foldl (fun d g => d.endRun g 4 true) d
    late.foldl Device.stallFold d
  else (d.onSeq r fun q => { q with hold := some .stall }).issueHold r .stall

/-- The instruction at the sequencer is a MATCH or a WAIT that has issued already: a later iteration or repetition needs no
decision of the engine (R90). -/
def Device.repeats (d : Device) (r : RegionIx) : Bool :=
  let q := d.regions[r].seq
  match seqOp (d.instr r) with
  | some .matchOp => decide (q.iterations ≠ [])
  | some .wait => decide (q.seg.op = .wait) && decide (q.seg.index = q.cur.pc)
  | _ => false

/-- The next iteration of MATCH, or repetition of WAIT, or the end of it. -/
def Device.again (d : Device) (r : RegionIx) : Device :=
  match seqOp (d.instr r) with
  | some .matchOp => d.match' r (d.instr r)
  | _ => d.wait r (d.instr r)

/-- Regions of a run that end at the next boundary. -/
def Device.endings (d : Device) (r : RegionIx) : List RegionIx := (d.group r).filter fun g => d.regions[g].run.ending.isSome

/-- The boundary of a run that was told to end has come. At shed stage S3 the regions Fold once every run has ended (R386). -/
def Device.reachBoundary (d : Device) (r : RegionIx) : Device :=
  let l := d.endings r
  let d := match l with | g :: _ => d.advanceFu d.regions[g].seq.boundary | [] => d
  let d := l.foldl Device.endAtBoundary d
  d.shedFolds.refreshMode

/-- The vector that is due issues, or what keeps it from issuing shows. `planned` and `holding` say which of the two the command is;
it has no effect where the other is due (log entry 37). -/
def Device.slotDue (d : Device) (r : RegionIx) (planned : Bool) (own other : CombErr) : Device :=
  let x := d.regions[r]
  match x.seq.hold with
  | some k =>
    if d.holdOver r then (if planned then (d.endHold r).issuePlanned r own other else d)
    else if planned then d else d.issueHold r k
  | none =>
    if !x.seq.busy then (if x.run.issued = 0 then d else d.stall r [r])
    else match d.late r with
      | [] => if planned then d.issuePlanned r own other else d
      | l => d.stall r l

/-- The slot of the next vector has come (log entry 37). A later iteration of MATCH or repetition of WAIT is taken without a decision
of the engine; where the instruction ends instead, the slot waits for the next one (R80, R81, R90). -/
def Device.slot (d : Device) (r : RegionIx) (planned : Bool) (own other : CombErr) : Device :=
  let x := d.regions[r]
  if d.endings r ≠ [] then d.reachBoundary r
  else if d.follows r || !(decide (x.run.state = .running) || decide (x.run.state = .holding)) || decide (x.seq.nextStart = none) then d
  else if !x.seq.busy && decide (x.seq.hold = none) && d.repeats r then
    if planned then
      let d := d.again r
      if d.regions[r].seq.busy then d.slotDue r planned own other else d
    else d
  else d.slotDue r planned own other

/-- No error strikes an entry. -/
def noStrike : CombErr := { data := 0, chk := 0 }

/-- VECTOR_ISSUE (R23). -/
def execVectorIssue (r : RegionIx) (own other : CombErr) (s : State) : Host.Outcome State Fault Refusal :=
  onDev s fun d => d.slot r true own other
/-- HOLD_VECTOR_ISSUE (R85). -/
def execHoldVectorIssue (r : RegionIx) (s : State) : Host.Outcome State Fault Refusal :=
  onDev s fun d => d.slot r false noStrike noStrike

end Sys2Proof.Machine
end

