-- ==== Sys2Proof/Machine/Paths.lean ====
section
/-!
DEFINITION. The paths of a sequence program: the fields of its instructions (R66, R68), its loops (R73), its structure (R74),
the timing sets on consecutive vectors (R58), and the instruction engine (R90).
-/
namespace Sys2Proof.Machine

/-! ### Fields (R66) -/

/-- The fields, low bit and width, that an instruction uses beside its opcode. -/
def usedFields (w : BitVec 128) : List (Nat × Nat) :=
  let tset := (118, 6)
  let mask := (112, 3)
  let chan := (102, 6)
  let count := (64, 32)
  let target := (32, 14)
  let addr := (0, 32)
  match seqOp w with
  | some .play | some .repeat => [tset, count, addr]
  | some .loop => [count]
  | some .matchOp => [tset, mask, count, (48, 16), target, addr]
  | some .jump | some .call => [target]
  | some .branch =>
    [(117, 1), (108, 4), target] ++ (if iCond w ≤ 1 then [mask] else if iCond w ≤ 3 then [chan] else [])
  | some .wait => [tset, chan, count, target, addr]
  | some .signal => [chan]
  | _ => []

/-- The instruction keeps R66. -/
def fieldsOk (w : BitVec 128) : Bool :=
  decide (w.toNat % 2 ^ 124 = ((usedFields w).map fun (lo, n) => ifield w lo n * 2 ^ lo).sum) &&
    match seqOp w with
    | none => false
    | some .play => decide (1 ≤ iCount w) && decide (iCount w ≤ 2 ^ 31)
    | some .repeat | some .loop => decide (iCount w ≠ 0)
    | some .matchOp => decide (iCount w ≠ 0) && decide (iMatch w ≠ 0)
    | some .branch => decide (iCond w ≤ 5)
    | some .wait => decide (iCount w ≠ 0) || decide (iTarget w = 0)
    | _ => true

/-- A vector-producing instruction (R67). -/
def isVector (w : BitVec 128) : Bool :=
  match seqOp w with
  | some .play | some .repeat | some .matchOp | some .wait => true
  | _ => false

/-! ### Loops (R73) -/

/-- The LOOPs and their matching ENDLOOPs, by position. -/
def brackets : List (BitVec 128) → Nat → List Nat → List (Nat × Nat)
  | [], _, _ => []
  | w :: ws, k, opened =>
    match seqOp w, opened with
    | some .loop, _ => brackets ws (k + 1) (k :: opened)
    | some .endloop, i :: rest => (i, k) :: brackets ws (k + 1) rest
    | _, _ => brackets ws (k + 1) opened

/-- A program, where it starts, and its loops. -/
structure Plan where
  prog : List (BitVec 128)
  entry : Nat
  loops : List (Nat × Nat)
  deriving DecidableEq, Repr

/-- The plan of a program. -/
def Plan.of (prog : List (BitVec 128)) (entry : Nat) : Plan := { prog, entry, loops := brackets prog 0 [] }
/-- Its instruction at an index. -/
def Plan.at' (p : Plan) (k : Nat) : BitVec 128 := fetchInstr p.prog k
/-- The loops whose body holds an index, the innermost first. -/
def Plan.bodies (p : Plan) (k : Nat) : List (Nat × Nat) := p.loops.filter fun (i, j) => decide (i < k) && decide (k ≤ j)
/-- The LOOP that an ENDLOOP closes. -/
def Plan.opening (p : Plan) (j : Nat) : Option Nat := (p.loops.find? fun x => x.2 = j).map (·.1)
/-- The ENDLOOP that closes a LOOP. -/
def Plan.closing (p : Plan) (i : Nat) : Option Nat := (p.loops.find? fun x => x.1 = i).map (·.2)

/-! ### Paths (R74) -/

/-- A place on a path: an instruction, and the CALLs that are open, the latest first. -/
structure Spot where
  pc : Nat
  frames : List Nat
  deriving DecidableEq, Repr

/-- A step of a path: where it leads, whether it is a timeout, and whether the prefetcher does not predict it (R84). -/
structure Move where
  dest : Spot
  timeout : Bool := false
  redirect : Bool := false
  deriving DecidableEq, Repr

/-- A CALL would be too deep or recursive (R74). -/
def Plan.callBad (p : Plan) (s : Spot) : Bool :=
  decide (16 ≤ s.frames.length) || (s.frames.map fun c => iTarget (p.at' c)).contains (iTarget (p.at' s.pc))

/-- The steps from a place. -/
def Plan.moves (p : Plan) (s : Spot) : List Move :=
  let w := p.at' s.pc
  let next : Move := { dest := { s with pc := s.pc + 1 } }
  let target : Spot := { s with pc := iTarget w }
  match seqOp w with
  | none | some .halt => []
  | some .endloop =>
    (match p.opening s.pc with
      | some i => if 1 < iCount (p.at' i) then [{ dest := { s with pc := i + 1 } }] else []
      | none => []) ++ [next]
  | some .jump => [{ dest := target }]
  | some .branch => [{ dest := target, redirect := !iHint w }, { next with redirect := iHint w }]
  | some .matchOp => [next, { dest := target, timeout := true, redirect := true }]
  | some .wait => next :: if iCount w = 0 then [] else [{ dest := target, timeout := true, redirect := true }]
  | some .call => if p.callBad s then [] else [{ dest := { pc := iTarget w, frames := s.pc :: s.frames } }]
  | some .ret => match s.frames with
    | [] => []
    | c :: rest => [{ dest := { pc := c + 1, frames := rest } }]
  | _ => [next]

/-- The steps that stay inside the 16 384 instructions. -/
def Plan.steps (p : Plan) (s : Spot) : List Move := (p.moves s).filter fun m => decide (m.dest.pc < 16384)

/-- Everything reached by steps from some places; the first argument bounds how many are looked at. -/
def explore {σ : Type} [DecidableEq σ] (next : σ → List σ) : Nat → List σ → List σ → List σ
  | 0, seen, _ => seen
  | _ + 1, seen, [] => seen
  | n + 1, seen, s :: todo => if seen.contains s then explore next n seen todo else explore next n (s :: seen) (next s ++ todo)

/-- The bound of every walk of admission: no program has so many places. -/
def walkFuel : Nat := 2 ^ 64

/-- Every place that a path from EntryIndex reaches. -/
def Plan.spots (p : Plan) : List Spot :=
  explore (fun s => (p.steps s).map (·.dest)) walkFuel [] [{ pc := p.entry, frames := [] }]

/-- The instructions that some path reaches, ascending. -/
def Plan.reached (p : Plan) (spots : List Spot) : List Nat :=
  (List.range p.prog.length).filter fun i => spots.any fun s => decide (s.pc = i)

/-- The reasons, code and instruction, for which R74 refuses a place (log entry 35). -/
def Plan.flaws (p : Plan) (s : Spot) : List (Nat × Nat) :=
  let w := p.at' s.pc
  let here := p.bodies s.pc
  let across := decide (p.bodies (iTarget w) ≠ here)
  let opened := here.length + (s.frames.map fun c => (p.bodies c).length).sum
  let bad := fun (b : Bool) (code : Nat) => if b then [(code, s.pc)] else []
  bad ((p.moves s).any fun m => decide (16384 ≤ m.dest.pc)) 3 ++
    match seqOp w with
    | some .loop => bad ((p.closing s.pc).isNone || decide (8 ≤ opened)) 3
    | some .endloop => bad (p.opening s.pc).isNone 3
    | some .jump | some .branch | some .matchOp => bad across 3
    | some .wait => bad (across && decide (iCount w ≠ 0)) 3
    | some .call => bad (decide (p.bodies (iTarget w) ≠ [])) 3 ++ bad (p.callBad s) 4
    | some .ret => bad (decide (here ≠ [])) 3 ++ bad (decide (s.frames = [])) 4
    | _ => []

/-- The reasons for which R66 and R74 refuse a program. -/
def Plan.structure' (p : Plan) (spots : List Spot) : List (Nat × Nat) :=
  let n := p.prog.length
  if n ≤ p.entry then [(1, 0xFFFF)]
  else
    ((List.range n).filter fun i => !fieldsOk (p.at' i)).map (fun i => (2, i)) ++
      (if p.bodies p.entry = [] then [] else [(3, p.entry)]) ++ spots.flatMap p.flaws

/-! ### Segments (R68, R92) -/

/-- The segment of a vector-producing instruction lies outside the vector space or the anchored area (R68; log entry 35). -/
def segmentBad (w : BitVec 128) (vectorLimit anchored : Nat) : Bool :=
  if isAnchored (iAddr w) then decide (ifield w 19 12 ≠ 0) || decide (anchored < anchorEntry (iAddr w) + iLength w)
  else decide (vectorLimit < iAddr w + iLength w)

/-- The reasons 0x05 and 0x06 of a program (log entry 35). -/
def Plan.segments (p : Plan) (vectorLimit anchored : Nat) : List (Nat × Nat) :=
  let vec := (List.range p.prog.length).filter fun i => isVector (p.at' i)
  (vec.filter fun i => segmentBad (p.at' i) vectorLimit anchored).map (fun i => (5, i)) ++
    (vec.filter fun i => (decide (seqOp (p.at' i) = some .matchOp) || decide (seqOp (p.at' i) = some .wait)) &&
      !isAnchored (iAddr (p.at' i))).map fun i => (6, i)

/-! ### Sets on consecutive vectors (R58) -/

/-- A place and the set of the last vector before it. -/
structure Last where
  spot : Spot
  set : Option Nat
  deriving DecidableEq, Repr

/-- The steps from such a place; a WAIT may issue no vector. -/
def Plan.lastSteps (p : Plan) (x : Last) : List Last :=
  let w := p.at' x.spot.pc
  (p.steps x.spot).flatMap fun m =>
    match seqOp w with
    | some .play | some .repeat | some .matchOp => [{ spot := m.dest, set := some (iTset w) }]
    | some .wait => { spot := m.dest, set := some (iTset w) } :: if m.timeout then [] else [{ spot := m.dest, set := x.set }]
    | _ => [{ spot := m.dest, set := x.set }]

/-- Every place with every last set. -/
def Plan.lasts (p : Plan) : List Last :=
  explore p.lastSteps walkFuel [] [{ spot := { pc := p.entry, frames := [] }, set := none }]

/-- Sets on consecutive vectors, with the instruction that names the second: a set follows itself, by a repetition or by a
hold vector. -/
def Plan.pairs (p : Plan) (lasts : List Last) : List (Nat × Nat × Nat) :=
  (lasts.filter fun x => isVector (p.at' x.spot.pc)).flatMap fun x =>
    let s := iTset (p.at' x.spot.pc)
    (s, s, x.spot.pc) :: match x.set with | some a => [(a, s, x.spot.pc)] | none => []

/-! ### The instruction engine (R90) -/

/-- A place past a vector-producing instruction: loops entered since with their iterations left, how often a loop that was open
before has gone back since (the index of its LOOP and the calls it lies in), and the control instructions passed. -/
structure Engine where
  spot : Spot
  inner : List (Nat × Nat)
  outer : List (Nat × Nat × Nat) := []
  passed : Nat
  deriving DecidableEq, Repr

/-- How often a loop that was open before has gone back. -/
def Engine.backs (x : Engine) (i : Nat) : Nat :=
  ((x.outer.find? fun o => decide (o.1 = i ∧ o.2.1 = x.spot.frames.length)).map (·.2.2)).getD 0

/-- Such a loop goes back once more. -/
def Engine.back (x : Engine) (i : Nat) : List (Nat × Nat × Nat) :=
  (i, x.spot.frames.length, x.backs i + 1) :: x.outer.filter fun o => decide (¬(o.1 = i ∧ o.2.1 = x.spot.frames.length))

/-- It is left: a later LOOP of the same index opens it anew. -/
def Engine.leave (x : Engine) (i : Nat) : List (Nat × Nat × Nat) :=
  x.outer.filter fun o => decide (¬(o.1 = i ∧ o.2.1 = x.spot.frames.length))

/-- The engine treats the instruction as control (R90). -/
def isControl (w : BitVec 128) : Bool := !isVector w || decide (seqOp w = some .wait)

/-- Issue time, fu (R90). -/
def issueTime (w : BitVec 128) (period : Nat) : Nat :=
  match seqOp w with
  | some .play | some .repeat => iCount w * period
  | some .matchOp => iMatch w * period
  | _ => 0

/-- The steps of the engine from a place: a loop that was open before goes back less often than its Count, as long as the instructions passed fit the issue time. -/
def Plan.engineSteps (p : Plan) (time : Nat) (x : Engine) : List Engine :=
  let w := p.at' x.spot.pc
  let k := x.passed + 1
  if !isControl w || decide (seqOp w = some .halt) || decide (seqOp w = none) || decide (time < (1 + x.passed) * 4096) then []
  else match seqOp w, x.inner with
    | some .loop, _ =>
      (p.steps x.spot).map fun m => { x with spot := m.dest, inner := (x.spot.pc, iCount w) :: x.inner, passed := k }
    | some .endloop, (i, left) :: rest =>
      if 1 < left then [{ x with spot := { x.spot with pc := i + 1 }, inner := (i, left - 1) :: rest, passed := k }]
      else [{ x with spot := { x.spot with pc := x.spot.pc + 1 }, inner := rest, passed := k }]
    | some .endloop, [] =>
      let next : List Engine := [{ x with spot := { x.spot with pc := x.spot.pc + 1 }, passed := k }]
      match p.opening x.spot.pc with
      | none => next
      | some i =>
        (if x.backs i + 1 < iCount (p.at' i) then
          [{ x with spot := { x.spot with pc := i + 1 }, outer := x.back i, passed := k }] else []) ++
          next.map fun y => { y with outer := x.leave i }
    | _, _ => (p.steps x.spot).map fun m => { x with spot := m.dest, passed := k }

/-- The vector-producing instruction at a place issues too fast for what a path passes after it. -/
def Plan.engineBad (p : Plan) (s : Spot) (time : Nat) : Bool :=
  (explore (p.engineSteps time) walkFuel [] ((p.steps s).map fun m => { spot := m.dest, inner := [], passed := 0 })).any
    fun x => decide (time < (1 + x.passed) * 4096)

/-- The instructions that break R90. -/
def Plan.engine (p : Plan) (spots : List Spot) (period : Nat → Nat) : List Nat :=
  (spots.filter fun s =>
    let w := p.at' s.pc
    !isControl w && p.engineBad s (issueTime w (period (iTset w)))).map (·.pc)

end Sys2Proof.Machine
end

