-- ==== Sys2Proof/Machine/Deficit.lean ====
section
/-!
DEFINITION. The ring analysis of admission (R92 to R94): deficits in units of 1/3 276 800 burst, so that bursts per µs times fu
come out whole.
-/
namespace Sys2Proof.Machine

/-- Fine units in 1 µs, and units in one burst (log entry 36). -/
def microFu : Nat := 3276800

/-! ### Step functions (R93) -/

/-- Sum of two terms, none standing for minus infinity. -/
def addTerm (a b : Option Int) : Option Int := match a, b with | some x, some y => some (x + y) | _, _ => none
/-- The larger of two terms. -/
def maxTerm (a b : Option Int) : Option Int := match a, b with | some x, some y => some (max x y) | x, none => x | none, y => y

/-- A function of the entry deficit x: exit max (x + n, c), and the largest deficit on the way max (x + pn, pc). -/
structure Tr where
  n : Option Int := some 0
  c : Option Int := none
  pn : Option Int := none
  pc : Option Int := none
  deriving DecidableEq, Repr

/-- A deficit that does not depend on the entry. -/
def Tr.const (v : Int) : Tr := { n := none, c := some v }
/-- One step, and then another. -/
def Tr.andThen (a b : Tr) : Tr where
  n := addTerm a.n b.n
  c := maxTerm (addTerm a.c b.n) b.c
  pn := maxTerm a.pn (addTerm a.n b.pn)
  pc := maxTerm a.pc (maxTerm (addTerm a.c b.pn) b.pc)
/-- The larger of two paths, term by term. -/
def Tr.join (a b : Tr) : Tr := { n := maxTerm a.n b.n, c := maxTerm a.c b.c, pn := maxTerm a.pn b.pn, pc := maxTerm a.pc b.pc }
/-- A step so many times, in closed form by doubling; the first argument bounds the doublings. -/
def Tr.pow : Nat → Nat → Tr → Tr
  | 0, _, _ => {}
  | f + 1, k, t =>
    if k = 0 then {}
    else
      let h := Tr.pow f (k / 2) t
      if k % 2 = 1 then (h.andThen h).andThen t else h.andThen h
/-- A step so many times. -/
def Tr.times (t : Tr) (k : Nat) : Tr := Tr.pow 80 k t
/-- A step without end: so many times that a growing deficit passes every limit (log entry 36). -/
def Tr.forever (t : Tr) : Tr := t.times (2 ^ 70)

/-! ### The walk of the predicted path -/

/-- What the walk of one region needs: the rate of port P in bursts per µs, the periods, the deficit that the refill after a
redirect leaves, and, to find an instruction, the only one whose checks count. -/
structure Ring where
  plan : Plan
  rate : Nat
  period : Nat → Nat
  refill : Int
  only : Option Nat

/-- A DRAM segment of `l` vectors from `a` that takes `t` fu and touches `g` granules. -/
def Ring.dram (q : Ring) (k g t : Nat) : Tr :=
  let n : Int := (microFu * (4 + g) : Nat) - (q.rate * t : Nat)
  let seen := match q.only with | some m => decide (m = k) | none => true
  { n := some n, c := some 0
    pn := if seen then some (max (microFu * 4 : Nat) n) else none, pc := if seen then some 0 else none }

/-- Time without DRAM vectors. -/
def Ring.anchored (q : Ring) (t : Nat) : Tr := { n := some (-(q.rate * t : Nat)), c := some 0 }

/-- The first DRAM segment after a redirect finds the ring refilled. -/
def Ring.clamp (q : Ring) (t : Tr) : Tr := { t with c := t.c.map fun v => min v q.refill }

/-- A vector-producing instruction, after an entry; `fresh` says that no DRAM segment has played since the redirect. -/
def Ring.vector (q : Ring) (k : Nat) (acc : Tr) (fresh : Bool) : Tr × Bool :=
  let w := q.plan.at' k
  let t := issueTime w (q.period (iTset w))
  if isAnchored (iAddr w) then (acc.andThen (q.anchored t), fresh)
  else
    let g := if seqOp w = some .play then (iAddr w + iCount w - 1) / 2 - iAddr w / 2 + 1 else 1
    ((if fresh then q.clamp acc else acc).andThen (q.dram k g t), false)

/-- Where a walk came to: the deficit, whether no DRAM segment has played since the redirect, and whether it reached the end
of its level, a given ENDLOOP or a RETURN. -/
structure Walked where
  tr : Tr
  fresh : Bool
  ended : Bool
  deriving DecidableEq, Repr

/-- The walk of one level: `stop` is the ENDLOOP that ends it, none a RETURN; `back` is the instruction at which a cycle closes;
`seen` are the places walked so far. -/
def Ring.walk (q : Ring) (stop : Option Nat) : Nat → Option Nat → Bool → Tr → List (Nat × Bool) → Nat → Walked
  | 0, _, fresh, acc, _, _ => { tr := acc, fresh, ended := false }
  | n + 1, back, fresh, acc, seen, pc =>
    if back = some pc ∧ seen ≠ [] then { tr := acc, fresh, ended := true }
    else if seen.contains (pc, fresh) then
      { tr := acc.andThen (Ring.walk q stop n (some pc) fresh {} [] pc).tr.forever, fresh, ended := false }
    else
      let seen := (pc, fresh) :: seen
      let w := q.plan.at' pc
      match seqOp w with
      | none | some .halt => { tr := acc, fresh, ended := false }
      | some .play | some .repeat | some .matchOp =>
        let (acc, fresh) := q.vector pc acc fresh
        Ring.walk q stop n back fresh acc seen (pc + 1)
      | some .jump => Ring.walk q stop n back fresh acc seen (iTarget w)
      | some .branch => Ring.walk q stop n back fresh acc seen (if iHint w then iTarget w else pc + 1)
      | some .call =>
        let r := Ring.walk q none n none fresh acc [] (iTarget w)
        if r.ended then Ring.walk q stop n back r.fresh r.tr seen (pc + 1) else r
      | some .ret => { tr := acc, fresh, ended := decide (stop = none) }
      | some .loop =>
        match q.plan.closing pc with
        | none => { tr := acc, fresh, ended := false }
        | some j =>
          let first := Ring.walk q (some j) n none fresh acc [] (pc + 1)
          if !first.ended then first
          else
            let body := if iCount w ≤ 1 then {} else (Ring.walk q (some j) n none false {} [] (pc + 1)).tr
            Ring.walk q stop n back first.fresh (first.tr.andThen (body.times (iCount w - 1))) seen (j + 1)
      | some .endloop =>
        if stop = some pc then { tr := acc, fresh, ended := true } else Ring.walk q stop n back fresh acc seen (pc + 1)
      | some .wait | some .signal => Ring.walk q stop n back fresh acc seen (pc + 1)
termination_by structural n => n

/-- Instructions that one walk follows at most. -/
def pathFuel : Nat := 2 ^ 24

/-- Deficits at one place, at most one for each value of `fresh`, and the largest peak of what has ended before. -/
structure Front where
  alts : List (Tr × Bool)
  peak : Option Int
  deriving DecidableEq, Repr

/-- Two deficits at one place become one, term by term. -/
def mergeAlts (l : List (Tr × Bool)) : List (Tr × Bool) :=
  [true, false].filterMap fun b =>
    match (l.filter fun x => x.2 = b).map (·.1) with
    | [] => none
    | t :: rest => some (rest.foldl Tr.join t, b)

/-- Walks from one place under every deficit there. -/
def Ring.advance (q : Ring) (stop : Option Nat) (pc : Nat) (f : Front) : Front :=
  let ws := f.alts.map fun (t, b) => q.walk stop pathFuel none b t [] pc
  { alts := mergeAlts ((ws.filter (·.ended)).map fun w => (w.tr, w.fresh))
    peak := (ws.filter (!·.ended)).foldl (fun m w => maxTerm m w.tr.pc) f.peak }

/-- At the end of a loop body that was entered in its middle, any number of its iterations can be left. -/
def Ring.rest (q : Ring) (i j : Nat) (f : Front) : Front :=
  let k := iCount (q.plan.at' i)
  if k ≤ 1 then f
  else
    let more := q.advance (some j) (i + 1) f
    let body := (q.walk (some j) pathFuel none false {} [] (i + 1)).tr
    { alts := mergeAlts (f.alts ++ more.alts.map fun (t, b) => (t.andThen (({} : Tr).join (body.times (k - 2))), b)), peak := more.peak }

/-- A level from a place to its end, through the loops that are open there. -/
def Ring.level (q : Ring) : List (Nat × Nat) → Nat → Front → Front
  | [], pc, f => q.advance none pc f
  | (i, j) :: loops, pc, f => Ring.level q loops (j + 1) (q.rest i j (q.advance (some j) pc f))

/-- All levels, through the CALLs that are open (log entry 36). -/
def Ring.levels (q : Ring) : List Nat → Nat → Front → Front
  | [], pc, f => q.level (q.plan.bodies pc) pc f
  | c :: frames, pc, f => Ring.levels q frames (c + 1) (q.level (q.plan.bodies pc) pc f)

/-- The largest peak from a place under a given deficit. -/
def Ring.peakFrom (q : Ring) (s : Spot) (x : Int) (fresh : Bool) : Option Int :=
  let f := q.levels s.frames s.pc { alts := [(Tr.const x, fresh)], peak := none }
  f.alts.foldl (fun m a => maxTerm m a.1.pc) f.peak

/-- The targets of the redirects of a program, each with the instruction that redirects (R84, R93). -/
def Plan.redirects (p : Plan) (spots : List Spot) : List (Nat × Spot) :=
  (spots.flatMap fun s => ((p.steps s).filter (·.redirect)).map fun m => (s.pc, m.dest)).eraseDups

/-- The largest deficit that admission finds (R93): along the predicted path from an empty deficit, and from every redirect
target with the ring discarded. -/
def Ring.peak (q : Ring) (entry : Spot) (targets : List Spot) (ringBursts : Nat) : Option Int :=
  targets.foldl (fun m s => maxTerm m (q.peakFrom s (microFu * ringBursts : Nat) true)) (q.peakFrom entry 0 false)

/-! ### Redirects that lead to DRAM (R92) and their holds (R94) -/

/-- The first vector-producing instructions that some path from a place reaches, anchored WAITs passed over. -/
def Plan.firstVectors (p : Plan) (s : Spot) : List Nat :=
  let stops := fun (k : Nat) => isVector (p.at' k) && decide (seqOp (p.at' k) ≠ some .wait)
  let next := fun (x : Spot) => if stops x.pc then [] else ((p.steps x).filter fun m => !m.timeout).map (·.dest)
  ((explore next walkFuel [] [s]).filter fun x => stops x.pc).map (·.pc)

/-- A redirect to a place leads to a DRAM segment before an anchored one (R92). -/
def Plan.dramFirst (p : Plan) (s : Spot) : Bool := (p.firstVectors s).any fun k => !isAnchored (iAddr (p.at' k))

/-- The shortest period that Pmin of R94 names; none without such a redirect. -/
def Plan.shortest (p : Plan) (lasts : List Last) (dram : List (Nat × Spot)) (period : Nat → Nat) : Option Nat :=
  (dram.flatMap fun (src, target) =>
    let w := p.at' src
    if seqOp w = some .branch then
      (lasts.filter fun x => x.spot.pc = src).flatMap fun x => match x.set with
        | some s => [period s]
        | none => (p.firstVectors target).map fun k => period (iTset (p.at' k))
    else [period (iTset w)]).min?

/-- MaxRedirectHold (R94); `open'` where the rate is 0, for which the rule gives no value (log entry 36). -/
def maxRedirectHold (rate depth open' : Nat) (pmin : Option Nat) : Nat :=
  match pmin with
  | none => 0
  | some p =>
    if rate = 0 ∨ p = 0 then open' % 2 ^ 32
    else (microFu * rate + depth * 128 * microFu + rate * p - 1) / (rate * p)

end Sys2Proof.Machine
end

