-- ==== Sys2Proof/Machine/Admission.lean ====
section
/-!
DEFINITION. Admission: its checks, its reads of vector space and what RunAdmission reports (R91, R92, R95), with the timing-set
checks of R27, R45, R51, R58 to R60.
-/
namespace Sys2Proof.Machine

/-! ### Findings (R95) -/

/-- A reason with what RunAdmission reports beside it. -/
structure Finding where
  code : Nat
  index : Nat := 0xFFFF
  pos : Nat := 0xFF
  tsets : Nat := 0xFFFF
  deriving DecidableEq, Repr

/-- The order of findings: the lowest code, then the lowest instruction, position and sets. -/
def Finding.before (a b : Finding) : Bool :=
  decide (a.code < b.code) || (decide (a.code = b.code) && (decide (a.index < b.index) ||
    (decide (a.index = b.index) && (decide (a.pos < b.pos) || (decide (a.pos = b.pos) && decide (a.tsets ≤ b.tsets))))))

/-- The finding that is reported (log entry 35). -/
def firstFinding : List Finding → Option Finding
  | [] => none
  | f :: rest => match firstFinding rest with
    | none => some f
    | some g => some (if f.before g then f else g)

/-- One timing set, as TimingSets reports it. -/
def oneSet (k : Nat) : Nat := 0xFF00 + k

/-! ### The program as one region plays it -/

/-- What the checks of one region look at: the plan, the instructions reached that make vectors, the sets they name, and the
pairs of sets with the instruction that names the second. -/
structure Scan where
  plan : Plan
  spots : List Spot
  lasts : List Last
  vectors : List Nat
  sets : List Nat
  pairs : List (Nat × Nat × Nat)
  deriving DecidableEq, Repr

/-- The scan of a program without structural flaws (log entry 35). -/
def Scan.of (p : Plan) (spots : List Spot) : Scan :=
  let vectors := (p.reached spots).filter fun i => isVector (p.at' i)
  let lasts := p.lasts
  { plan := p, spots, lasts, vectors
    sets := (List.range 64).filter fun k => vectors.any fun i => decide (iTset (p.at' i) = k)
    pairs := (p.pairs lasts).eraseDups }

/-- The first instruction that names a set. -/
def Scan.naming (s : Scan) (k : Nat) : Nat := (s.vectors.find? fun i => decide (iTset (s.plan.at' i) = k)).getD 0xFFFF

/-! ### Timing (R27, R51, R58, R59) -/

/-- Places of a region-vector. -/
def vectorPlaces : List Nat := List.range 64

/-- Sets that are not Valid (R51). -/
def Scan.invalidSets (s : Scan) (x : Region) : List Finding :=
  (s.sets.filter fun k => (x.set' k).status.state ≠ 1).map fun k =>
    let st := (x.set' k).status
    { code := 8, index := s.naming k, pos := if st.state = 0 then 0xFF else st.firstCell, tsets := oneSet k }

/-- Pairs that break R58. -/
def Scan.badPairs (s : Scan) (x : Region) : List Finding :=
  s.pairs.flatMap fun (a, b, i) =>
    (vectorPlaces.filter fun p =>
      let ea := (x.set' a).entry p
      !pairOk ea ((x.set' b).entry p) (x.set' a).period (x.set' b).period (clockStep ea (x.entries p s.sets))).map fun p =>
        { code := 10, index := i, pos := p, tsets := a * 256 + b }

/-- Swings that break R59 within a set, and across a pair. -/
def Scan.swings (s : Scan) (x : Region) (levels : Nat → Levels) : List Finding :=
  (s.sets.flatMap fun k =>
    (vectorPlaces.filter fun p => !(levels p).swingOk (((x.set' k).entry p).intervals (x.set' k).period)).map fun p =>
      { code := 11, index := s.naming k, pos := p, tsets := oneSet k : Finding }) ++
  s.pairs.flatMap fun (a, b, i) =>
    (vectorPlaces.filter fun p =>
      let ea := (x.set' a).entry p
      let iv := pairInterval ea ((x.set' b).entry p) (x.set' a).period (x.set' b).period (clockStep ea (x.entries p s.sets))
      !(levels p).swingOk iv.toList).map fun p => { code := 11, index := i, pos := p, tsets := a * 256 + b }

/-- Sets whose periods differ between the regions (R27). -/
def Scan.differing (s : Scan) (x y : Region) : List Finding :=
  (s.sets.filter fun k => (x.set' k).period ≠ (y.set' k).period).map fun k =>
    { code := 12, index := s.naming k, tsets := oneSet k }

/-! ### The vectors (R45, R92) -/

/-- Bursts that a program's DRAM segments touch, each once, in the order of the instructions. -/
def Scan.bursts (s : Scan) : List Nat :=
  (s.vectors.flatMap fun i =>
    let w := s.plan.at' i
    if isAnchored (iAddr w) then []
    else (List.range ((iAddr w + iLength w - 1) / 2 - iAddr w / 2 + 1)).map fun k => iAddr w / 2 + k).eraseDups

/-- Admission reads a region's bursts through port S: what each gives, none where it fails its checks (R92, R256). -/
def Device.admissionReads (d : Device) (r : RegionIx) (errs : List ReadErr) (bursts : List Nat) :
    Device × List (Nat × Option Nat) :=
  bursts.foldl (fun (d, l) g =>
    let e := errs.find? fun e => decide (e.region = r ∧ e.burst = g)
    let d := d.onMem r fun m => { m with regS := m.regS.spend }
    let (d, b) := d.readBurst r g (e.elim noErrors (·.first)) (e.elim noErrors (·.second)) false false
    (d, l ++ [(g, if b.step = 0 then some b.data else none)])) (d, [])

/-- The 256 bits at a vector address; none where the read failed. -/
def vectorAt (x : Region) (reads : List (Nat × Option Nat)) (a : Nat) : Option (BitVec 256) :=
  if isAnchored a then some (x.combAt (anchorEntry a)).data
  else match (reads.find? fun q => q.1 = a / 2).map (·.2) with
    | some (some v) => some (BitVec.ofNat 256 (v / 2 ^ (256 * (a % 2))))
    | _ => none

/-- Reserved codes and unreadable vectors of one instruction's segment. -/
def Scan.vectorFindings (s : Scan) (x : Region) (reads : List (Nat × Option Nat)) (i : Nat) : List Finding :=
  let w := s.plan.at' i
  let set := x.set' (iTset w)
  (List.range (iLength w)).flatMap fun k =>
    match vectorAt x reads (iAddr w + k) with
    | none => [{ code := 18, index := i }]
    | some v => (vectorPlaces.filter fun p => (set.entry p).reservedFor (symbolAt v p)).map fun p =>
        { code := 9, index := i, pos := p, tsets := oneSet (iTset w) }

/-! ### What concerns one region, and what concerns all -/

/-- The rate of port P, bursts per µs (R92, R262). -/
def Region.rateP (x : Region) : Nat := x.dram.rate x.dram.regP

/-- The ring of one region for a walk. -/
def Scan.ring (s : Scan) (x : Region) (depth : Nat) (only : Option Nat) : Ring where
  plan := s.plan
  rate := x.rateP
  period k := (x.set' k).period
  refill := (microFu : Int) * ((x.ringEntries / 2 : Nat) - (depth * 128 : Nat))
  only := only

/-- The largest deficit, or the largest at one instruction (log entry 36). -/
def Scan.peak (s : Scan) (x : Region) (depth : Nat) (only : Option Nat) : Int :=
  (((s.ring x depth only).peak { pc := s.plan.entry, frames := [] } ((s.plan.redirects s.spots).map (·.2)).eraseDups
    (x.ringEntries / 2)).getD 0)

/-- Q - Λ, in bursts (R92). -/
def Region.limit (x : Region) : Int := (x.ringEntries / 2 : Nat) - (x.rateP : Nat)

/-- DRAM instructions at which the deficit passes the limit. -/
def Scan.overLimit (s : Scan) (x : Region) (depth : Nat) : List Finding :=
  (s.vectors.filter fun i => !isAnchored (iAddr (s.plan.at' i)) &&
    decide ((microFu : Int) * x.limit < s.peak x depth (some i))).map fun i => { code := 13, index := i }

/-- The redirects that lead to DRAM before an anchored segment (R92). -/
def Scan.dramRedirects (s : Scan) : List (Nat × Spot) := (s.plan.redirects s.spots).filter fun x => s.plan.dramFirst x.2

/-- Reasons 0x07 to 0x0B, 0x0D, 0x10 to 0x12 of one region (R92, R95). -/
def Scan.own (s : Scan) (x : Region) (levels : Nat → Levels) (reads : List (Nat × Option Nat)) (cls : RunClass) (depth : Nat) :
    List Finding :=
  let one := fun (b : Bool) (code : Nat) => if b then [({ code } : Finding)] else []
  (if x.comb = .valid then [] else
    ((s.vectors.filter fun i => isAnchored (iAddr (s.plan.at' i))).take 1).map fun i => { code := 7, index := i }) ++
  s.invalidSets x ++ s.vectors.flatMap (s.vectorFindings x reads) ++ s.badPairs x ++ s.swings x levels ++
  (if cls = .bestEffort then [] else s.overLimit x depth) ++
  one (decide (x.ringEntries < 512 * depth)) 16 ++
  one (decide (cls = .guaranteed) && decide (s.dramRedirects ≠ []) && decide (depth * 128 < x.rateP + 4)) 17

/-- Reasons 0x0E and 0x0F (R90, R92). -/
def Scan.shared (s : Scan) (x : Region) (cls : RunClass) : List Finding :=
  (if cls = .bestEffort then [] else (s.plan.engine s.spots fun k => (x.set' k).period).map fun i => { code := 14, index := i }) ++
  if cls = .gapless then s.dramRedirects.map fun q => { code := 15, index := q.1 } else []

/-! ### RunAdmission (R91, R95) -/

/-- The result of an admitted class. -/
def admitted (c : RunClass) : AdmResult :=
  match c with
  | .guaranteed => .guaranteed
  | .gapless => .gapless
  | .bestEffort => .bestEffort

/-- What one region reports: the finding that concerns it, the result of all, and its own analysis. -/
def admissionReport (f : Option Finding) (result : AdmResult) (x : Region) (peak hold : Nat) (s : Option Scan) : Admission where
  result := result
  reason := (f.map (·.code)).getD 0
  index := (f.map (·.index)).getD 0xFFFF
  position := (f.map (·.pos)).getD 0xFF
  tsets := (f.map (·.tsets)).getD 0xFFFF
  peak := peak
  limit := x.limit.toNat
  supply := x.rateP
  maxHold := min hold (maxU 32)
  sets := (s.map (·.sets)).getD []
  pairs := (s.map fun q => q.pairs.map fun (a, b, _) => (a, b)).getD []

/-- Reasons 0x01 to 0x06 of a program. -/
def Device.programFindings (d : Device) (r : RegionIx) (p : Plan) (spots : List Spot) : List Finding :=
  let make := fun (q : Nat × Nat) => ({ code := q.1, index := q.2 } : Finding)
  let structure' := (p.structure' spots).map make
  if structure' ≠ [] then structure'
  else ((d.group r).flatMap fun g => p.segments d.regions[g].dram.vectorLimit d.regions[g].anchored).map make

/-- Levels of the places of a region. -/
def Device.levelsOf (d : Device) (r : RegionIx) (p : Nat) : Levels := d.cells[regionCell r p].levels

/-- Every admission result of a run. -/
def Device.putAdmission (d : Device) (l : List (RegionIx × Admission)) : Device :=
  l.foldl (fun d (g, a) => d.onRegion g fun x => { x with adm := a }) d

/-- Admission of the run of region `r` (log entry 35). -/
def Device.evaluateRun (d : Device) (r : RegionIx) (errs : List ReadErr) : Device :=
  let x := d.regions[r]
  let p := Plan.of x.program x.entry
  let spots := p.spots
  let depth := x.restartDepth
  let cls := x.run.cls
  match firstFinding (d.programFindings r p spots) with
  | some f => d.putAdmission ((d.group r).map fun g => (g, admissionReport (some f) .notAdmitted d.regions[g] 0 0 none))
  | none =>
    let s := Scan.of p spots
    let shared := s.shared x cls ++ if d.modes.coupled then s.differing d.regions[0] d.regions[1] else []
    let open' := Config.unstated d.free
    let (d, found) := (d.group r).foldl (fun (d, l) g =>
      let (d, reads) := d.admissionReads g errs s.bursts
      (d, l ++ [(g, firstFinding (shared ++ s.own d.regions[g] (d.levelsOf g) reads cls depth))])) (d.nextFree, [])
    let result := if found.all (fun q => q.2.isNone) then admitted cls else .notAdmitted
    d.putAdmission (found.map fun (g, f) =>
      let y := d.regions[g]
      let peak := (s.peak y depth none + (microFu - 1 : Nat)) / (microFu : Int)
      let pmin := s.plan.shortest s.lasts s.dramRedirects fun k => (y.set' k).period
      (g, admissionReport f result y (min peak.toNat (maxU 32)) (maxRedirectHold y.rateP depth open' pmin) (some s)))

end Sys2Proof.Machine
end

