-- ==== Sys2Proof/Machine/Run.lean ====
section
/-!
DEFINITION. RunCtl and the states of a run: admission, prefill, the start conditions of the SYNC bus and the clock, Stop, Abort
and the drain (R91, R96, R97, R339, R340).
-/
namespace Sys2Proof.Machine

/-! ### The start of a run (R38, R39, R88, R97, R114, R118, R145, R171) -/

/-- A Tally at Start: the copy of TallyConfig, counters and Events cleared (R133, R145); StartFrozen is a freeze of that FCLK cycle
(R137). -/
def Tally.start (t : Tally) (fclk : Nat) : Tally :=
  { freezeAt := if t.cfg.startFrozen then some fclk else none
    cfg := t.cfg, live := t.cfg, state := if t.cfg.startFrozen then .frozen else .capturing
    freezeCycle := if t.cfg.startFrozen then some 0 else none
    spans := if t.cfg.startFrozen then [(0, none)] else [] }

/-- A cell at Start: counters and first fail cleared, drive data 0, no last sample; the driver keeps its state (R38, R39, R114,
R118, R124, R171; log entry 41). -/
def Cell.start (x : Cell) : Cell :=
  ({ x with counters := {}, firstFail := none, driveData := false, lastSample := none, edges := [], strobes := [], windows := [] }).inlineStart

/-- A region at Start: its counters of the run are cleared and its mode is Run (R88, R97, R98). -/
def Region.start (x : Region) (state : RunState) (fclk : Nat) : Region :=
  { x with mode := .run, run := { scheduled := x.run.scheduled, cls := x.run.cls, state := state }, stalls := {}
           seq := {}, fetch := { stopped := true }, vecs := [], lagged := [], tally := x.tally.start fclk }

/-- The result admits a run and is current (R91). -/
def AdmResult.admits : AdmResult → Bool
  | .guaranteed | .gapless | .bestEffort => true
  | _ => false

/-- The sequencer and the prefetchers of a run start at EntryIndex; latches and accumulators are clear (R76, R78, R83, R97). They
are clear from here also where the run was Admitting, and the run keeps the admission it enters with (R107; log entry 34). -/
def Device.enterPrefill (d : Device) (r : RegionIx) : Device :=
  let c : Cursor := { pc := d.regions[d.leader r].entry }
  let fetch := Prefetch.start (d.prog r) c 0
  d.onGroup r fun x => { x with run := { x.run with state := .prefill, sets := x.adm.sets, pairs := x.adm.pairs }, seq := { cur := c }, fetch := fetch }

/-- One region starts: its Balances are void where a condition of R407 fails, and a Tally that starts frozen says so. -/
def Device.startRegion (state : RunState) (d : Device) (r : RegionIx) : Device :=
  let d := (d.onRegion r fun x => x.start state d.fclk).onCells (inRegion r) Cell.start
  let d := if d.balancesBroken then d.voidRun1 r else d
  if d.regions[r].tally.state = .frozen then d.tallyEvent r 3 else d

/-- Start (R96, R97; log entry 34). -/
def Device.startRun (d : Device) (r : RegionIx) : Device :=
  let ready := (d.group r).all fun g => d.regions[g].adm.result.admits
  let d := (d.group r).foldl (Device.startRegion (if ready then .prefill else .admitting)) d
  let d := if ready then d.enterPrefill r else d.onGroup r fun x => { x with adm := { x.adm with result := .evaluating } }
  d.refreshMode

/-! ### The end of a run by command (R97) -/

/-- The run ends in each of its regions (R97). -/
def Device.endGroup (d : Device) (r : RegionIx) (reason : Nat) (drop : Bool) : Device :=
  ((d.group r).foldl (fun d g => d.endRun g reason drop) d).refreshMode

/-- An admission that a run waited for is abandoned (R97). -/
def Device.dropAdmission (d : Device) (r : RegionIx) : Device :=
  d.onGroup r fun x => { x with adm := if x.adm.result = .evaluating then { x.adm with result := .none } else x.adm }

/-- Stop (R96, R97; log entry 32). -/
def Device.stopRun (d : Device) (r : RegionIx) : Device :=
  match d.regions[r].run.state with
  | .admitting => (d.dropAdmission r).endGroup r 2 false
  | .prefill | .armed => d.endGroup r 2 false
  | .running | .holding => d.startDrain r 2
  | _ => d

/-- Abort (R96, R97; log entry 32). -/
def Device.abortRun (d : Device) (r : RegionIx) : Device :=
  let d := if d.regions[r].run.state = .admitting then d.dropAdmission r else d
  if d.regions[r].run.playing then (d.group r).foldl (fun d g => d.endAtNext g 3) d
  else if d.regions[r].run.inProgress then d.endGroup r 3 true
  else d

/-! ### RunCtl (R96) -/

/-- The actions that a word asks for: Start, Stop, Abort, Admit (log entry 30). -/
def runActions (v : Nat) : Nat := b2n (bitAt v 0) + b2n (bitAt v 1) + b2n (bitAt v 2) + b2n (bitAt v 3)

/-- The class of a code. -/
def RunClass.ofCode (n : Nat) : RunClass := if n = 0 then .guaranteed else if n = 1 then .gapless else .bestEffort

/-- What refuses a Start (R96, R146, R339, R386, R427; log entry 30). -/
def Device.startChecks (d : Device) (r : RegionIx) (scheduled : Bool) : List Check :=
  let g := d.group r
  [(g.any fun k => decide (d.regions[k].mode ≠ .ready), 5, 1), (d.sec.holdsBoundary, 5, 2), (d.follows r, 5, 3),
   (g.any fun k => d.regions[k].run.inProgress || d.regions[k].resumeRequired, 5, 3), (decide (2 ≤ d.shed.stage), 5, 3),
   (g.any fun k => decide (d.regions[k].tally.state = .draining) || decide (d.regions[k].tally.state = .held), 5, 3),
   (scheduled && (!bitAt d.sched.regions (d.leader r).val || (decide (d.sched.source ≠ 0) && decide (d.sched.role = 0))), 5, 3)]

/-- The fields that RunCtl keeps; a change of Class makes the admission result stale (R91). -/
def Device.putRunCtl (d : Device) (r : RegionIx) (v : Nat) : Device :=
  let cls := RunClass.ofCode (field v 4 2)
  let changed := decide (d.regions[r].run.cls ≠ cls)
  let d := d.onRun r fun x => { x with cls := cls, scheduled := bitAt v 8 }
  if changed then d.invalidate r else d

/-- Admit: the regions of a run are admitted together (R91, R96; log entry 31). -/
def Device.askAdmission (d : Device) (r : RegionIx) : Device :=
  d.onGroup r fun x => { x with adm := { x.adm with result := .evaluating } }

/-- The action of an accepted word. In coupled operation region B's RunCtl does not stop or abort the run (R27; log entry
30). -/
def Device.runAction (d : Device) (r : RegionIx) (v : Nat) : Device :=
  if bitAt v 0 then d.startRun r
  else if bitAt v 1 then (if d.follows r then d else d.stopRun r)
  else if bitAt v 2 then (if d.follows r then d else d.abortRun r)
  else if bitAt v 3 then d.askAdmission r
  else d

/-- A write of RunCtl (R96). -/
def specRunCtl (r : RegionIx) (v : Nat) (d : Device) : WSpec where
  len := 4
  state := if bitAt v 0 then d.startChecks r (bitAt v 8) else []
  value := [(decide (field v 4 2 = 3), 7, 2), (decide (1 < runActions v), 7, 4)]
  apply d := (d.putRunCtl r v).runAction r v

/-- A write of RunCtl by a host (log entry 30). -/
def Device.writeRunCtl (d : Device) (h : Hdr) (r : RegionIx) (w : BitVec 32) : Device :=
  d.writeReg h (regionTarget r 0 0) { len := 4, val := w.toNat } fun _ => specRunCtl r w.toNat

/-- RUN_CLASS_WRITE (R91, R96). -/
def execRunClassWrite (h : Hdr) (r : RegionIx) (w : BitVec 32) (s : State) : Host.Outcome State Fault Refusal :=
  onDev s fun d => d.writeRunCtl h r w
/-- RUN_ADMIT (R91). -/
def execRunAdmit (h : Hdr) (r : RegionIx) (w : BitVec 32) (s : State) : Host.Outcome State Fault Refusal :=
  onDev s fun d => d.writeRunCtl h r w
/-- RUN_START (R96, R97). -/
def execRunStart (h : Hdr) (r : RegionIx) (w : BitVec 32) (s : State) : Host.Outcome State Fault Refusal :=
  onDev s fun d => d.writeRunCtl h r w
/-- RUN_STOP (R96, R97). -/
def execRunStop (h : Hdr) (r : RegionIx) (w : BitVec 32) (s : State) : Host.Outcome State Fault Refusal :=
  onDev s fun d => d.writeRunCtl h r w
/-- RUN_ABORT (R96, R97). -/
def execRunAbort (h : Hdr) (r : RegionIx) (w : BitVec 32) (s : State) : Host.Outcome State Fault Refusal :=
  onDev s fun d => d.writeRunCtl h r w

/-! ### Admission ends (R91, R95, R97) -/

/-- ADMISSION_COMPLETE: the result is reported, and a run that waits for it goes on or ends (log entry 34). -/
def Device.admissionDone (d : Device) (r : RegionIx) (errs : List ReadErr) : Device :=
  if d.follows r || decide (d.regions[r].adm.result ≠ .evaluating) then d
  else
    let d := d.evaluateRun r errs
    if d.regions[r].run.state ≠ .admitting then d
    else if d.regions[r].adm.result.admits then d.enterPrefill r
    else d.endGroup r 9 false

def execAdmissionComplete (a : AdmissionEnd) (s : State) : Host.Outcome State Fault Refusal :=
  onDev s fun d => d.admissionDone a.region a.errs

/-! ### The start of cycle 0 (R23, R97, R339, R340) -/

/-- The run is Running, its first vector due at a time, and issues it if it is decided. -/
def Device.goRunning (d : Device) (start : Nat) (r : RegionIx) : Device :=
  (d.onGroup r fun x => { x with run := { x.run with state := .running }, seq := { x.seq with nextStart := some start } }).slot r true noStrike noStrike

/-- A scheduled start has taken place: Status and StartCycleTime, to the nearest ns (R15, R347; log entry 42). -/
def Device.markStart (d : Device) (start : Nat) (late : Bool) : Device :=
  let free := !d.disciplined
  { d with sched := { d.sched with started := true, late := d.sched.late || late, freeRunning := d.sched.freeRunning || free
                                   startCycleTime := (d.keeper2 * Config.fclkFu + (start - d.time) * 5 + Config.fclkFu) / (2 * Config.fclkFu) } }

/-- An Armed run starts at a time under ScheduledStart (R339). -/
def Device.startArmed (start : Nat) (late : Bool) (d : Device) (r : RegionIx) : Device :=
  (d.markStart start late).goRunning start r

/-- The master drives a rising edge of SYNC0 (R340). -/
def Device.driveSync0 (d : Device) : Device := { d with sched := { d.sched with drove0 := d.sched.drove0 + 1 } }

/-- Runs that are Armed. -/
def Device.armedRuns (d : Device) : List RegionIx :=
  regionsAll.filter fun r => decide (d.regions[r].run.state = .armed) && !d.follows r
/-- Runs that are Armed and selected by ScheduledStart.Regions. -/
def Device.dueRuns (d : Device) : List RegionIx := d.armedRuns.filter fun r => bitAt d.sched.regions r.val

/-- A run has reached Armed: after Time it starts at once, and its master drives SYNC0 (R339). -/
def Device.reachArmed (d : Device) (r : RegionIx) : Device :=
  let d := d.onGroup r fun x => { x with run := { x.run with state := .armed } }
  if d.now ≤ d.sched.time then d
  else if d.sched.source = 0 then d.startArmed d.time true r
  else if d.sched.source = 2 ∧ d.sched.role = 2 then
    { d.driveSync0 with sched := { d.driveSync0.sched with late := true } }
  else d

/-- PREFILL_COMPLETE (R97). -/
def Device.prefillDone (d : Device) (r : RegionIx) : Device :=
  let x := d.regions[r]
  if d.follows r || decide (x.run.state ≠ .prefill) || !((d.group r).all fun g => d.regions[g].prefilled) then d
  else if x.run.scheduled then d.reachArmed r
  else d.goRunning d.time r

def execPrefillComplete (r : RegionIx) (s : State) : Host.Outcome State Fault Refusal := onDev s fun d => d.prefillDone r

/-- The Keeper time reaches a time, ns (log entry 2). -/
def Device.advanceNs (d : Device) (t : Nat) : Device :=
  d.moveClock (d.time + (2 * t - d.keeper2) * Config.fclkFu / 5) (max d.keeper2 (2 * t))

/-- SCHEDULED_START_DUE (R339; log entry 42). -/
def Device.startDue (d : Device) : Device :=
  if d.dueRuns = [] ∨ d.sched.source = 1 ∨ !d.modes.clocks then d
  else
    let d := d.advanceNs d.sched.time
    if d.sched.source = 0 then d.dueRuns.foldl (Device.startArmed d.time false) d
    else if d.sched.role = 2 then d.driveSync0
    else d

def execScheduledStartDue (s : State) : Host.Outcome State Fault Refusal := onDev s Device.startDue

/-- SYNC0_EDGE (R340). -/
def Device.sync0 (d : Device) : Device :=
  if d.sched.role = 0 then d
  else
    let d := { d with sched := { d.sched with lastEdge := d.now } }
    let l := if d.sched.source = 0 then [] else d.armedRuns
    if l = [] then { d with sched := { d.sched with ignored := d.sched.ignored + 1 } }
    else l.foldl (Device.startArmed (d.time + 655360 + d.sched.deskew) false) d

def execSync0Edge (s : State) : Host.Outcome State Fault Refusal := onDev s Device.sync0

/-- SYNC1_EDGE (R340; log entry 42). -/
def Device.sync1 (d : Device) : Device :=
  if d.sched.role = 0 then d
  else (regionsAll.filter fun r => bitAt d.sched.regions r.val && d.regions[r].run.armedOrRunning && !d.follows r).foldl
    (fun d r => d.stopRun r) d

def execSync1Edge (s : State) : Host.Outcome State Fault Refusal := onDev s Device.sync1

/-! ### The drain of a run ends (R62, R97) -/

/-- No event of the run waits in a region. -/
def Device.settled (d : Device) (r : RegionIx) : Bool :=
  d.regions[r].vecs.all (fun v => v.applied && decide (v.pending = 0)) &&
    (cellsOf r).all fun c => decide (d.cells[c].edges = []) && decide (d.cells[c].strobes = []) && decide (d.cells[c].windows = [])

/-- DRAIN_COMPLETE (R62). -/
def Device.drainDone (d : Device) (r : RegionIx) : Device :=
  let x := d.regions[r]
  if d.follows r || decide (x.run.state ≠ .draining) || decide (d.endings r ≠ []) || !((d.group r).all d.settled) then d
  else d.endGroup r x.run.drainReason false

def execDrainComplete (r : RegionIx) (s : State) : Host.Outcome State Fault Refusal := onDev s fun d => d.drainDone r

end Sys2Proof.Machine
end

