-- ==== Sys2Proof/Machine/TallyCmds.lean ====
section
/-!
DEFINITION. The commands of the Tally: TallyConfig, processing of a vector, and the writes of its drain (R127 to R145).
-/
namespace Sys2Proof.Machine

/-! ### TallyConfig (R132 to R134) -/

/-- TallyConfig with a value written. -/
def TallyConfig.put (c : TallyConfig) (sub v : Nat) : TallyConfig :=
  match sub with
  | 1 => { c with mode := match v with
      | 0 => .allFails | 1 => .firstN | 2 => .firstPerPin | 3 => .cycleWindow | _ => .countOnly }
  | 2 => { c with firstN := v }
  | 3 => { c with windowStart := v }
  | 4 => { c with windowEnd := v }
  | 5 => { c with captureMask := BitVec.ofNat 64 v }
  | 6 => { c with wrap := decide (v = 1) }
  | 7 => { c with threshold := v }
  | _ => { c with startFrozen := bitAt v 0, autoFreeze := bitAt v 1, excludeMatchWait := bitAt v 2 }

/-- TallyConfig.Command (R134). -/
def Device.tallyCommand (d : Device) (r : RegionIx) (v : Nat) : Device :=
  if v = 1 then d.freezeRequest r else if v = 2 then d.unfreezeRequest r else d

/-- A write of TallyConfig (R132, R133). -/
def specTally (r : RegionIx) (sub v : Nat) (d : Device) : WSpec where
  len := match sub with | 1 => 1 | 2 => 4 | 6 => 1 | 8 => 4 | 9 => 1 | _ => 8
  access := [subCheck (List.range' 1 9) sub]
  state := if sub = 9 then [] else [d.busyCheck r]
  value := match sub with
    | 1 => [codeCheck v 5]
    | 2 => [(decide (v = 0), 7, 1)]
    | 3 => [inRangeN v 0 (maxU 48)]
    | 4 => [inRangeN v 0 (maxU 48)]
    | 6 => [codeCheck v 2]
    | 9 => [codeCheck v 3]
    | _ => []
  apply d := if sub = 9 then d.tallyCommand r v else d.onTally r fun t => { t with cfg := t.cfg.put sub v }

/-- TALLY_FREEZE (R134, R136). -/
def execTallyFreeze (h : Hdr) (r : RegionIx) (s : State) : Host.Outcome State Fault Refusal :=
  onDev s fun d => d.writeCmd h (regionTarget r 0x200 9) 1 fun _ => specTally r 9 1
/-- TALLY_UNFREEZE (R134, R136). -/
def execTallyUnfreeze (h : Hdr) (r : RegionIx) (s : State) : Host.Outcome State Fault Refusal :=
  onDev s fun d => d.writeCmd h (regionTarget r 0x200 9) 2 fun _ => specTally r 9 2

/-! ### TALLY_VECTOR_PROCESS (R127 to R131) -/

/-- The mask of a vector is known, or is lost. -/
def VecRec.complete (v : VecRec) : Bool := v.applied && (v.returned || v.lost)

/-- The partner region's mask for the same cycle is known (R130). -/
def Device.partnerComplete (d : Device) (r : RegionIx) (v : VecRec) : Bool :=
  !d.modes.coupled || (d.regions[partner r].vecs.filter fun w => w.order = v.order).all VecRec.complete

/-- Errors strike the FIFO, and the drain takes what it may. -/
def Device.strikeAndDrain (d : Device) (r : RegionIx) (errs : List FifoErr) : Device := (d.onTally r fun t => t.strike errs).drain r

/-- The oldest vector is processed, once its mask is complete. -/
def Device.processNext (d : Device) (r : RegionIx) (errs : List FifoErr) : Device :=
  match d.regions[r].vecs with
  | [] => d
  | v :: _ => if !v.complete || !d.partnerComplete r v then d else (d.finishVector r v).strikeAndDrain r errs

def execTallyVectorProcess (r : RegionIx) (errs : List FifoErr) (s : State) : Host.Outcome State Fault Refusal :=
  onDev s fun d => d.processNext r errs

/-! ### The drain (R140 to R144, R272) -/

/-- TALLY_IDLE_TIMEOUT: 1 µs without a record, and a partial group is owed; a held Tally asks a folded region's DRAM for service
(R140, R272). -/
def Device.tallyIdle (d : Device) (r : RegionIx) (errs : List FifoErr) : Device :=
  let d := if d.regions[r].tally.state = .held then d.serviceExit r else d
  (d.onTally r fun t => { t with flush := true }).strikeAndDrain r errs

def execTallyIdleTimeout (i : DrainIdle) (s : State) : Host.Outcome State Fault Refusal :=
  onDev s fun d => d.tallyIdle i.region i.errs

/-- Bytes that a burst write carries. -/
def DramWrite.bytes (w : DramWrite) : Nat := ((List.range 64).filter fun i => w.mask.getLsbD i).length

/-- Port T takes a burst slot for its next burst; without an area to write to it needs none (R140, R262). -/
def Device.tallyGrant (d : Device) (r : RegionIx) : Bool :=
  let m := d.regions[r].dram
  decide (m.areaCapacity = 0) || match m.place (d.tallyBurst r).burst with
    | none => true
    | some (c, _) => decide (d.burstSlot (regionDram r c) = .writeT)

/-- A record of an earlier pass that a slot held is held no more (R141). -/
def Tally.overwrite (t : Tally) (slot : Nat) : Tally :=
  if t.storedSlots.contains slot then
    { t with storedSlots := t.storedSlots.filter (fun k => decide (k ≠ slot))
             counters := { t.counters with overwritten := t.counters.overwritten + 1 } }
  else t

/-- The write to the slot of the first record has completed: it is stored, or dropped as WriteFailed (R140 to R142). -/
def Tally.complete (capacity : Nat) (ok : Bool) (t : Tally) : Tally :=
  let slot := t.nextSlot % capacity
  let t := { t.overwrite slot with nextSlot := t.nextSlot + 1, writing := t.writing.drop 1 }
  if ok then { t with anyStored := true, storedSlots := t.storedSlots ++ [slot], counters := { t.counters with stored := t.counters.stored + 1 } }
  else { t with counters := { t.counters with dropWriteFailed := t.counters.dropWriteFailed + 1 } }

/-- Drops that the next record not begun tells of: the first so many of the group have failed, of which so many have been told of
already (R130, R142). -/
def Tally.passGap (t : Tally) (told failed : Nat) : Tally :=
  let gap := (((t.writing.take failed).drop told).map fun q => q.gap + 1).sum
  match t.writing.drop failed with
  | [] => { t with drainGap := t.drainGap + gap }
  | q :: rest => { t with writing := t.writing.take failed ++ { q with gap := q.gap + gap } :: rest }

/-- A burst with so many bytes of the group has been written, or has failed: the records it ends are complete in slot order, and one
that it begins or goes on with waits for the next (R140, R142; log entry 41). -/
def Tally.burstDone (t : Tally) (capacity bytes : Nat) (ok : Bool) : Tally :=
  let whole := (t.offset + bytes) / 24
  let left := (t.offset + bytes) % 24
  let begun := b2n (decide (0 < left ∧ (0 < whole ∨ t.offset = 0)))
  let was := t.partFailed
  let t := { t with writing := t.markFirst }
  let t := if ok then t else t.passGap (b2n was) (whole + begun)
  let head := decide (0 < whole)
  let t := if head then Tally.complete capacity (ok && !was) t else t
  let t := (List.range (whole - 1)).foldl (fun t _ => Tally.complete capacity ok t) t
  { t with offset := left, partFailed := decide (0 < left) && (!ok || (!head && was)) }

/-- The bytes of a burst write that failed hold what no rule defines; the rest of the burst stays (R142). -/
def Device.writeLost (d : Device) (r : RegionIx) (w : DramWrite) (e1 e2 : ErrPat) : Device :=
  let v := Config.lostBurst d.free w.burst
  ((d.writeBurst r { w with data := v.extractLsb' 0 512 } e1 e2)).nextFree

/-- TALLY_WRITE_COMPLETE: the next burst of the drain is written, or its write fails; errors may strike the FIFO and the reads of a
read-merge-write (R140, R142, R257; log entry 41). -/
def Device.tallyWritten (d : Device) (r : RegionIx) (ok : Bool) (errs : List FifoErr) (e1 e2 : ErrPat) : Device :=
  let d := d.strikeAndDrain r errs
  let x := d.regions[r]
  let t := x.tally
  if t.writing = [] ∨ !d.draining r ∨ !d.tallyGrant r then d
  else
    let w := d.tallyBurst r
    let was := t.counters.drops
    let gone := decide (x.dram.areaCapacity = 0) || (x.dram.place w.burst).isNone
    let bytes := if gone then 24 * t.writing.length - t.offset else w.bytes
    let d := d.onMem r fun m => { m with regT := m.regT.spend }
    let d := if gone then d else if ok then d.writeBurst r w e1 e2 else d.writeLost r w e1 e2
    let d := (d.onTally r fun t => t.burstDone x.dram.areaCapacity bytes (ok && !gone)).firstDrop r was
    (d.onTally r Tally.rest).drain r

def execTallyWriteComplete (r : RegionIx) (w : DrainWrite) (s : State) : Host.Outcome State Fault Refusal :=
  onDev s fun d => d.tallyWritten r w.ok w.errs w.first w.second

end Sys2Proof.Machine
end

