-- ==== Sys2Proof/Machine/Objects.lean ====
section
/-!
DEFINITION. The object dictionary as it reads: every object outside 0x5000 to 0x5FFF, its subindices, their sizes and present
values (R349 to R352, R356, R366 to R370). A Read has no row in the table of commands; microcode reads these values (R302).
-/
namespace Sys2Proof.Machine

/-! ### Objects -/

/-- A subindex an object defines: its size in bytes and its value; a DOMAIN as one little-endian number (R351). -/
structure Entry where
  sub : Nat
  len : Nat
  val : Int
  deriving DecidableEq, Repr

/-- An object: single-valued, or a recordOf (R349). -/
structure Obj where
  single : Bool
  entries : List Entry
  deriving DecidableEq, Repr

/-- An unsigned subindex. -/
def un (sub len v : Nat) : Entry := { sub, len, val := v }
/-- A signed subindex. -/
def si (sub len : Nat) (v : Int) : Entry := { sub, len, val := v }
/-- Fields of so many bytes each, as one little-endian number. -/
def packed (l : List (Nat × Nat)) : Nat := numOf (l.flatMap fun x => bytesOf x.1 x.2)
/-- A DOMAIN of fields of so many bytes each. -/
def dom (sub : Nat) (l : List (Nat × Nat)) : Entry := { sub, len := (l.map fun (x : Nat × Nat) => x.1).sum, val := packed l }
/-- Counters as U64 subindices from `sub` on. -/
def u64s (sub : Nat) (l : List Nat) : List Entry := mapFrom (fun i (e : Entry) => { e with sub := sub + i }) 0 (l.map fun v => un 0 8 v)
/-- Flags as bits, the first as bit 0. -/
def flagBits : List Bool → Nat
  | [] => 0
  | b :: rest => b2n b + 2 * flagBits rest

/-- A single-valued object (R349). -/
def single (len v : Nat) : Option Obj := some { single := true, entries := [un 0 len v] }
/-- A record: subindex 0 is the highest subindex it defines (R349). -/
def recordOf (l : List Entry) : Option Obj :=
  some { single := false, entries := un 0 1 (l.foldl (fun m e => max m e.sub) 0) :: l }

/-- A two's complement number of so many bytes, as a field. -/
def twos (len : Nat) (v : Int) : Nat × Nat := (len, unsigned (8 * len) v)

/-! ### Chip-level objects (R366) -/

/-- Identity (R370). -/
def identityObject : Option Obj :=
  recordOf [un 1 6 (numOf [0x46, 0x6A, 0x6F, 0x6E, 0x61, 0x6C]), un 2 8 (numOf [0x44, 0x58, 0x53, 0x2D, 0x34, 0x31, 0x32, 0x38]),
    un 3 1 (b2n Config.grade32), un 4 2 Config.stepping.toNat, un 5 8 Config.serial.toNat, un 6 2 0x100, un 7 1 128, un 8 1 8]

/-- ThenkoPort (R341). -/
def Device.portObject (d : Device) (p : PortIx) : Option Obj :=
  let x := d.link.ports[p]
  let credits := [x.partGranted, x.partConsumed, x.partReturned, x.hostGranted, x.hostConsumed, x.hostReturned]
  let transfers := (d.attached.filterMap fun i => d.link.sessions[i].transfer).filter fun t => t.port = p
  let part := ((transfers.filter (·.write)).map (·.credits)).sum
  let host := ((transfers.filter fun t => !t.write).map (·.credits)).sum
  recordOf ([un 1 8 (Config.mac p.val).toNat, un 2 1 x.link, un 3 1 x.fec, un 4 4 d.link.sessionTimeout]
    ++ u64s 5 ([x.discarded, x.duplicates, x.outOfOrder, x.notifyDropped] ++ credits)
    ++ [dom 0xF ((credits ++ [part, host]).map fun v => (8, v))])

/-- DealerState (R344). -/
def Device.dealerObject (d : Device) : Option Obj :=
  let k := d.link.dealer
  recordOf [un 1 2 k.session, un 2 8 k.hostId, un 3 1 k.priority, un 4 1 k.cls, un 5 4 k.epoch, un 6 4 d.regions[0].dealer.epoch,
    un 7 4 d.regions[1].dealer.epoch, un 8 1 d.link.vacateCause.ctorIdx, un 9 8 d.link.lastChange]

/-- The Class a session shows (R343). -/
def Device.sessionClass (d : Device) (i : Fin 16) : Nat :=
  if !d.link.sessions[i].attached then 0 else if d.link.dealer.session = sessNo i then d.link.dealer.cls + 1 else 1

/-- SessionTable (R343). -/
def Device.sessionObject (d : Device) : Option Obj :=
  recordOf ((List.finRange 16).map fun i =>
    let x := d.link.sessions[i]
    if x.attached then
      dom (sessNo i) [(8, x.hostId), (1, d.sessionClass i), (1, x.lastPort.val), (2, 0), (4, x.lastFrame / 2 ^ 20)]
    else dom (sessNo i) [(16, 0)])

/-- PtpStatus, ScheduledStart and SyncBus (R346 to R348). -/
def Device.ptpObject (d : Device) : Option Obj :=
  recordOf [un 1 1 d.ptp.state.ctorIdx, un 2 1 d.ptp.enable, un 3 1 d.ptp.domain, un 4 1 d.ptp.port, un 5 8 d.ptp.gm, si 6 8 d.ptp.offset,
    un 7 8 d.ptp.delay]
def Device.schedObject (d : Device) : Option Obj :=
  let x := d.sched
  recordOf [un 1 8 x.time, un 2 1 x.regions, un 3 1 x.source, un 4 4 (flagBits [x.started, x.late, x.freeRunning]), un 5 8 x.startCycleTime]
def Device.syncObject (d : Device) : Option Obj :=
  recordOf [un 1 1 d.sched.role, un 2 2 d.sched.deskew, un 3 1 0, un 4 8 d.sched.lastEdge, un 5 4 d.sched.ignored]

/-- DeviceMode, ModeRequest and RegionMode (R373, R377, R378). -/
def Device.modeObject (d : Device) : Option Obj :=
  recordOf [un 1 1 d.modes.mode.ctorIdx, un 2 1 d.modes.previous.ctorIdx, un 3 8 d.modes.lastChange, un 4 1 d.modes.wakeCause.ctorIdx]
def Device.requestObject (d : Device) : Option Obj :=
  recordOf [un 1 1 0, un 2 1 d.modes.regions, un 3 1 d.modes.status.ctorIdx, un 4 1 d.modes.lastRequest]
def Device.regionModeObject (d : Device) : Option Obj :=
  let a := d.regions[0]
  let b := d.regions[1]
  recordOf [un 1 1 a.mode.ctorIdx, un 2 1 b.mode.ctorIdx, un 3 1 (b2n d.modes.coupled), un 4 1 a.die.ctorIdx, un 5 1 b.die.ctorIdx,
    un 6 1 (flagBits [a.resumeRequired, b.resumeRequired])]

/-- ShedStage and ShedConfig (R389, R390). -/
def Device.shedObject (d : Device) : Option Obj :=
  let x := d.shed
  recordOf [un 1 1 x.stage, un 2 1 x.peak, un 3 2 x.cause.toNat, un 4 2 x.lastCause.toNat, un 5 4 x.episodes, un 6 8 x.lastOnset,
    un 7 8 x.lastRestore, un 8 1 0]
def Device.shedConfigObject (d : Device) : Option Obj :=
  recordOf [un 1 4 d.shed.dwell, un 2 1 d.shed.maxStage, un 3 1 (b2n d.shed.autoRecover)]

/-- PowerReport and Temperatures (R383, R384). -/
def Device.powerObject (d : Device) : Option Obj :=
  let x := d.report
  recordOf [un 1 4 x.total, un 2 4 x.core, un 3 4 x.dieA, un 4 4 x.dieB, dom 5 (x.volts.map (twos 4)), dom 6 (x.amps.map (twos 4)),
    un 7 8 x.energy, un 8 8 x.updateTime]
def Device.temperatureObject (d : Device) : Option Obj :=
  let x := d.report
  recordOf [si 1 2 x.tempCore, si 2 2 x.tempA, si 3 2 x.tempB, un 4 1 x.hottest, si 5 2 x.warnLimit, un 6 1 x.overTemp]

/-- Every collector (R391). -/
def allCollectors : List ColId :=
  [.chip] ++ regionsAll.map ColId.region ++ (List.finRange 8).map ColId.block ++ (List.finRange 128).map ColId.cell

/-- FaultSummary (R406). -/
def Device.summaryObject (d : Device) : Option Obj :=
  let severe := (allCollectors.map fun col => ((d.sources col).filter (·.severe)).length).sum
  recordOf [un 1 4 (flagBits ([d.chipHeld, d.regionHeld 0, d.regionHeld 1] ++ (List.finRange 8).map d.blockHeld)),
    un 2 16 (flagBits ((List.finRange 128).map d.folded)), un 3 2 severe, un 4 1 (b2n d.chip.chipParity),
    un 5 1 (flagBits [d.chip.voidEvent, d.chip.voidCredit, d.chip.voidLog]), un 6 1 (b2n d.foldOut), un 7 1 0]

/-- Subindices 1 to 5 of a collector (R404). -/
def Device.collectorEntries (d : Device) (col : ColId) : List Entry :=
  let l := d.sources col
  [un 1 4 (flagBits (l.map (·.sticky))), un 2 4 (flagBits (l.map (·.severe))), un 3 4 (flagBits (l.map (·.cause))), un 4 4 0,
   dom 5 (l.map fun s => (4, s.count))]
/-- SourceConfig subindices of a collector, from `sub` on (R397). -/
def Device.sourceEntries (d : Device) (col : ColId) (sub : Nat) : List Entry := u64s sub ((d.sources col).map Source.config)
/-- A chip, region or block collector (R404). -/
def Device.collectorObject (d : Device) (col : ColId) : Option Obj := recordOf (d.collectorEntries col ++ d.sourceEntries col 0x10)

/-- FaultInjection (R409). -/
def Device.injectionObject (d : Device) : Option Obj :=
  recordOf [un 1 2 d.chip.injSource, un 2 1 d.chip.injCount, un 3 4 d.chip.injHold, un 4 1 0]

/-- LogControl and LogHead (R413, R414). -/
def Device.logControlObject (d : Device) : Option Obj := recordOf [un 1 1 0, un 2 8 d.log.lastClear]
def Device.logHeadObject (d : Device) : Option Obj :=
  let x := d.log
  recordOf [un 1 8 x.written, un 2 2 x.held, un 3 8 x.overwritten, un 4 2 (if x.written = 0 then 0xFFFF else (x.written - 1) % Config.logSlots),
    un 5 8 x.skipped, un 6 4 x.damaged, dom 7 [(8, x.written), (8, x.held), (8, x.overwritten)]]

/-- The debug level permitted now (R429, R430; log entry 70). -/
def Device.debugLevel (d : Device) : Nat := if d.internal then 2 else if d.boundaryMode then 1 else 0

/-- Lifecycle, SessionSecurity and DebugAccess (R417, R424, R429). No object returns a key (R417). -/
def Device.lifeObject (d : Device) : Option Obj :=
  recordOf [un 1 1 d.sec.life.ctorIdx, un 2 1 d.sec.keyState.ctorIdx, un 3 32 0, un 4 4 d.sec.keyCheck, un 5 1 0, un 6 1 d.sec.status.ctorIdx]
def Device.securityObject (d : Device) : Option Obj :=
  recordOf [un 1 4 (2 * flagBits ((List.finRange 16).map fun i => d.link.sessions[i].secure)), un 2 1 d.sec.failures,
    un 3 4 d.sec.totalFailures, un 4 8 d.sec.lockoutUntil, un 5 8 d.sec.trailerFailures]
def Device.debugObject (d : Device) : Option Obj :=
  recordOf [un 1 1 d.debugLevel, un 2 1 (b2n d.sec.unlocked), un 3 16 d.sec.unlockNonce, un 4 32 0, un 5 2 d.sec.unlockMinutes,
    un 6 8 d.sec.unlockExpiry, un 7 1 0, un 8 4 d.sec.refusedScans]

/-- WaggleChannel (R294). -/
def Device.channelObject (d : Device) (k : WaggleIx) : Option Obj :=
  let x := d.waggle.chans[k]
  recordOf ([un 1 1 x.source, un 2 1 x.gate, un 3 8 x.consumers.toNat, un 4 1 (b2n x.guarded), un 5 2 x.owner, un 6 2 x.minInterval,
      un 7 4 (b2n x.gateInvert), un 8 1 x.state.ctorIdx, un 9 1 0]
    ++ u64s 0xA [x.firings, x.fired, x.delivered, x.merged, x.overrun, x.rateLimited, x.gated, x.coalesced, x.suspendedEvents,
      x.lastFireTime]
    ++ [dom 0x14 ([x.fired, x.delivered, x.merged, x.overrun, d.inFlight k].map fun v => (8, v))])

/-- WaggleConsumers: one subindex for each consumer of R287 (R296). -/
def Device.consumersObject (d : Device) : Option Obj :=
  recordOf (((List.finRange 64).filter fun c => (consumerDomain c.val).isSome).map fun c =>
    let x := d.waggle.consumers[c]
    dom (c.val + 1) [(4, x.merged), (4, x.overruns), (1, x.lastSource), (1, b2n x.overrun), (2, 0)])

/-- WaggleIo (R293). -/
def Device.evioObject (d : Device) : Option Obj :=
  recordOf ((List.finRange 8).map (fun n => un (n.val + 1) 4 d.waggle.evio[n].config.toNat)
    ++ [un 9 1 (flagBits ((List.finRange 8).map fun n => d.waggle.evio[n].level))])

/-- The bank a context has armed; none for ROM only (R313). -/
def Device.armedBank (d : Device) (x : CtxIx) : Option Bank :=
  match d.ryu.ctxs[x].armed with
  | 0 => none
  | 1 => some d.ryu.bank0
  | _ => some d.ryu.bank1

/-- UcodeVersion, PatchControl and ContextStatus (R313, R315, R316). -/
def Device.ucodeObject (d : Device) : Option Obj :=
  let xs := List.finRange 4
  recordOf ([un 1 4 Config.romVersion.toNat, un 2 1 (flagBits (xs.map fun x => decide (d.ryu.ctxs[x].armed ≠ 0)))]
    ++ xs.map (fun x => un (3 + x.val) 4 ((d.armedBank x).elim 0 (·.version)))
    ++ xs.map (fun x => un (7 + x.val) 4 ((d.armedBank x).elim 0 (·.crc))))
def Device.patchObject (d : Device) : Option Obj :=
  let a := d.ryu.bank0
  let b := d.ryu.bank1
  recordOf [un 1 1 d.ryu.contextSel, un 2 1 0, un 3 1 (b2n a.loaded), un 4 1 (b2n b.loaded), un 5 4 a.version, un 6 4 b.version, un 7 4 a.crc,
    un 8 4 b.crc, un 9 1 ((List.finRange 4).map fun x => d.ryu.ctxs[x].armed * 4 ^ x.val).sum]
def Device.contextObject (d : Device) (x : CtxIx) : Option Obj :=
  let c := d.ryu.ctxs[x]
  recordOf [un 1 1 c.state.ctorIdx, un 2 2 (c.running.elim 0xFFFF (·.routine)), un 3 2 c.lastPc, un 4 1 c.restarts, un 5 2 c.queue.length,
    un 6 8 c.invocations, un 7 8 c.totalRestarts, un 8 4 c.livelocks, un 9 4 c.microFaults, un 0xA 4 c.lastFault, un 0xB 2 c.eventRoutine]

/-- DramConfig.State: Training while a channel of the region trains (R274; log entry 51). -/
def Device.dramShown (d : Device) (r : RegionIx) : DramState :=
  let m := d.regions[r].dram
  let trains := (List.range 2).any fun i => decide (d.drams[regionDram r i].state = .training)
  if decide (m.state = .active) && trains then .training else m.state

/-- DramConfig, DramShadow and PortRegulator (R274, R275, R278; log entry 51). -/
def Device.dramConfigObject (d : Device) (r : RegionIx) : Option Obj :=
  let m := d.regions[r].dram
  recordOf [un 1 1 m.populated, un 2 1 m.inService, un 3 1 m.width, un 4 1 m.ranks, un 5 1 m.density, un 6 8 m.capacity, un 7 1 m.addressMap,
    un 8 8 m.vectorBytes, un 9 8 m.failBytes, un 0xA 8 m.service, un 0xB 2 m.pageIdle, un 0xC 1 m.shadowSelect,
    un 0xD 1 m.activeShadow, un 0xE 2 m.dataRate, un 0xF 2 m.epoch, un 0x10 1 (d.dramShown r).ctorIdx, un 0x11 2 m.retrainLimit]
def Dram.shadowObject (m : Dram) : Option Obj := recordOf [un 1 64 m.shadowA, un 2 64 m.shadowB]
def Dram.regulatorObject (m : Dram) : Option Obj :=
  let l := [m.regP, m.regT, m.regH, m.regS]
  recordOf ([un 1 2 m.regP.share, un 2 2 m.regT.share, un 3 2 m.regH.share, un 4 2 m.regS.share, un 5 2 m.regP.depth, un 6 2 m.regT.depth,
    un 7 2 m.regH.depth, un 8 2 m.regS.depth, un 9 1 (flagBits (l.map (·.borrow))), dom 0xA (l.map fun x => (4, m.rate x))])

/-- TrainingStatus and DramErrors (R277, R279). -/
def DramChan.trainingObject (c : DramChan) : Option Obj :=
  recordOf [un 1 1 c.state.ctorIdx, un 2 8 c.lastTime, si 3 2 c.lastTemp, si 4 2 c.temp, un 5 4 c.trainings, un 6 2 c.eyeRead, un 7 2 c.eyeWrite,
    un 8 1 c.worst, un 9 40 c.lanes.word, un 0xA 4 (flagBits [c.disciplined, c.lastFailed]), un 0xB 1 0]
def DramErrors.object (e : DramErrors) : Option Obj :=
  recordOf (u64s 1 [e.corrected, e.recovered, e.uncorrectable, e.crcFail, e.tagMismatch, e.mergeZeroed, e.refreshSame, e.refreshAll])

/-- The chip-level objects (R366). -/
def Device.chipObject (d : Device) (idx : Nat) : Option Obj :=
  if h : 0x2300 ≤ idx ∧ idx < 0x2340 then d.channelObject ⟨idx - 0x2300, by omega⟩
  else if h : 0x2118 ≤ idx ∧ idx < 0x2120 then d.collectorObject (.block ⟨idx - 0x2118, by omega⟩)
  else if h : 0x2420 ≤ idx ∧ idx < 0x2424 then d.contextObject ⟨idx - 0x2420, by omega⟩
  else if h : 0x2510 ≤ idx ∧ idx < 0x2514 then d.drams[idx - 0x2510].trainingObject
  else if h : 0x2530 ≤ idx ∧ idx < 0x2534 then d.drams[idx - 0x2530].errors.object
  else match idx with
    | 0x1000 => identityObject
    | 0x1010 => d.portObject 0
    | 0x1011 => d.portObject 1
    | 0x1100 => recordOf [un 1 4 d.link.nodeAddress, un 2 1 (b2n d.link.assigned)]
    | 0x1200 => d.dealerObject
    | 0x1210 => d.sessionObject
    | 0x1220 => single 4 d.link.heartbeatTimeout
    | 0x1300 => d.ptpObject
    | 0x1310 => d.schedObject
    | 0x1320 => d.syncObject
    | 0x2000 => d.modeObject
    | 0x2001 => d.requestObject
    | 0x2010 => d.regionModeObject
    | 0x2020 => d.shedObject
    | 0x2021 => d.shedConfigObject
    | 0x2030 => d.powerObject
    | 0x2040 => d.temperatureObject
    | 0x2100 => d.summaryObject
    | 0x2110 => d.collectorObject .chip
    | 0x2111 => d.collectorObject (.region 0)
    | 0x2112 => d.collectorObject (.region 1)
    | 0x2180 => d.logControlObject
    | 0x2181 => d.logHeadObject
    | 0x2190 => d.injectionObject
    | 0x2200 => d.lifeObject
    | 0x2210 => d.securityObject
    | 0x2220 => d.debugObject
    | 0x2340 => d.consumersObject
    | 0x2341 => single 1 0
    | 0x2342 => d.evioObject
    | 0x2400 => d.ucodeObject
    | 0x2410 => d.patchObject
    | 0x2500 => d.dramConfigObject 0
    | 0x2501 => d.dramConfigObject 1
    | 0x2504 => d.regions[0].dram.shadowObject
    | 0x2505 => d.regions[1].dram.shadowObject
    | 0x2520 => d.regions[0].dram.regulatorObject
    | 0x2521 => d.regions[1].dram.regulatorObject
    | 0x2540 => recordOf [un 1 1 0, un 2 4 d.fenceIssued.toNat, un 3 4 d.fenceDone.toNat]
    | _ => none

/-! ### Region objects (R367) -/

/-- RunStatus, RunAdmission and RunCtl (R95, R96, R98). -/
def Run.statusObject (x : Run) (matched : Bool) : Option Obj :=
  recordOf [un 1 1 x.state.ctorIdx, un 2 1 x.endReason, un 3 8 x.cycle, un 4 8 x.issued, un 5 8 x.planned, un 6 8 x.holds, un 7 2 x.index,
    un 8 2 x.wraps, un 9 4 (flagBits [x.balanceVoid, matched]), un 0xA 4 x.lastMatch]
def Admission.object (a : Admission) : Option Obj :=
  recordOf [un 1 1 a.result.ctorIdx, un 2 1 a.reason, un 3 2 a.index, un 4 1 a.position, un 5 2 a.tsets, un 6 4 a.peak, un 7 4 a.limit,
    un 8 4 a.supply, un 9 4 a.maxHold]
def Run.ctlWord (x : Run) : Nat := x.cls.ctorIdx * 2 ^ 4 + b2n x.scheduled * 2 ^ 8

/-- ProgramCrc: the CRC-32 of the first 16 x Length bytes (R65). -/
def Region.programCrc (x : Region) : Nat := crc32 (x.program.flatMap fun w => bytesOf 16 w.toNat)
/-- SeqProgramInfo, CombPartition and StallCount (R65, R69, R88). -/
def Region.programObject (x : Region) : Option Obj :=
  recordOf [un 1 2 x.program.length, un 2 2 x.entry, un 3 4 x.programCrc, un 4 4 x.dram.vectorLimit]
def Region.combObject (x : Region) : Option Obj := recordOf [un 1 4 x.anchored, un 2 4 x.ringEntries, un 3 1 x.comb.ctorIdx]
def Stalls.object (x : Stalls) : Option Obj :=
  recordOf [un 1 4 x.stalls, un 2 8 x.stallHolds, un 3 8 x.redirectHolds, un 4 8 (x.firstCycle.getD 0xFFFFFFFFFFFFFFFF),
    un 5 2 (x.firstIndex.getD 0xFFFF), un 6 4 x.own, un 7 4 x.redirects]

/-- CalPolicy (R199) and StalenessStatus (R444). -/
def CalPolicy.object (k : CalPolicy) : Option Obj :=
  recordOf [un 1 1 k.deltaT, un 2 2 k.stepInterval, un 3 2 k.quietTimeout, un 4 2 k.deferRetry, un 5 4 k.options, un 6 1 0]
def Staleness.object (x : Staleness) : Option Obj :=
  recordOf [un 1 1 x.state.ctorIdx, un 2 1 x.trigger.ctorIdx, un 3 4 x.findings, un 4 8 x.startTime, un 5 8 x.endTime, un 6 8 x.awayTime,
    un 7 1 x.staleUnits, un 8 4 x.combCorrected, un 9 4 x.combUncorrectable, un 0xA 8 x.suspended.toNat, un 0xB 4 x.oldEpoch]

/-- BlockCal, DdsConfig and BlockAdc (R200, R219, R227). -/
def Device.blockCalObject (d : Device) (b : BlockIx) : Option Obj :=
  let x := d.blocks[b]
  recordOf [un 1 1 (d.bgState b).ctorIdx, un 2 4 x.cycleCount.toNat, si 3 4 x.refvReading, un 4 1 x.queue.length, un 5 1 (x.active.getD 0xFF)]
def Device.ddsObject (d : Device) (b : BlockIx) : Option Obj :=
  let x := d.blocks[b]
  recordOf [un 1 4 x.ddsFreq, un 2 1 x.ddsStart, un 3 1 x.ddsState.ctorIdx, un 4 4 x.ddsPhase.toNat, un 5 1 0]
/-- A measurement is in progress (R214, R219). -/
def MeasState.inQueue (m : MeasState) : Bool := match m with | .queued | .settling | .converting => true | _ => false
def Device.adcObject (d : Device) (b : BlockIx) : Option Obj :=
  let x := d.blocks[b]
  recordOf (un 1 1 ((cellsOfBlock b).filter fun c => d.cells[c].meas.state.inQueue).length ::
    u64s 2 [x.pmuConversions, x.readbackConversions, x.calConversions])

/-- SentinelConfig subindices (R242). -/
def SentConfig.entries (c : SentConfig) : List Entry :=
  [un 1 1 c.cls.ctorIdx, si 2 4 c.low, si 3 4 c.high, un 4 1 c.hyst, un 5 1 c.filter, un 6 1 c.blankTrigger, un 7 4 c.blankTime,
   un 8 4 c.options, un 9 4 c.releaseTime, un 0xA 1 0]
/-- SentinelStatus subindices, from `sub` on (R244). -/
def Sentinel.statusEntries (s : Sentinel) (raw : Raw) (sub : Nat) (railTrip : Bool) : List Entry :=
  [un sub 1 raw.ctorIdx, un (sub + 1) 1 s.output.ctorIdx, un (sub + 2) 1 (b2n s.tripped), un (sub + 3) 1 s.cause.ctorIdx,
   un (sub + 4) 8 s.onsetTime, un (sub + 5) 8 s.endTime, un (sub + 6) 4 s.onsets, un (sub + 7) 4 s.trips, si (sub + 8) 4 s.readbackLow,
   si (sub + 9) 4 s.readbackHigh,
   un (sub + 10) 4 (flagBits [s.onsetDisciplined, s.faultLow || s.faultHigh, s.blanking, s.endDisciplined, railTrip])]
/-- RailSentinel (R245) and SentinelTiming (R241). -/
def Sentinel.railObject (s : Sentinel) (raw : Raw) : Option Obj := recordOf (s.cfg.entries ++ s.statusEntries raw 0x11 false)
def SentTiming.object (t : SentTiming) : Option Obj := recordOf [un 1 4 t.tick, un 2 4 t.readback, un 3 8 t.count]

/-- TimingSet (R46). -/
def TimingSet.object (t : TimingSet) : Option Obj :=
  recordOf ([un 1 8 t.period, un 2 4 t.status.word] ++ mapFrom (fun i e => { e with sub := 0x40 + i }) 0
    (t.cells.toList.map fun e => un 0 40 e.toNat))

/-- TallyConfig (R132). -/
def TallyConfig.object (c : TallyConfig) : Option Obj :=
  recordOf [un 1 1 c.mode.ctorIdx, un 2 4 c.firstN, un 3 8 c.windowStart, un 4 8 c.windowEnd, un 5 8 c.captureMask.toNat, un 6 1 (b2n c.wrap),
    un 7 8 c.threshold, un 8 4 (flagBits [c.startFrozen, c.autoFreeze, c.excludeMatchWait]), un 9 1 0]
/-- TallyStatus (R147). -/
def Region.tallyStatusObject (x : Region) : Option Obj :=
  let t := x.tally
  recordOf [un 1 1 t.state.ctorIdx, un 2 2 t.level, un 3 2 t.fifoPeak, un 4 8 x.dram.areaCapacity, un 5 8 t.nextSlot,
    un 6 8 (t.freezeCycle.getD 0xFFFFFFFFFFFFFFFF), un 7 8 (t.unfreezeCycle.getD 0xFFFFFFFFFFFFFFFF),
    un 8 4 (flagBits [t.thresholdReached, t.firstNComplete, decide (t.counters.drops ≠ 0), t.areaFull])]
/-- The twelve counters of a Tally (R148). -/
def TallyCounters.list (c : TallyCounters) : List Nat :=
  [c.failVectors, c.notSelected, c.frozenSkipped, c.fails, c.stored, c.drops, c.dropFifoFull, c.dropAreaFull, c.dropWriteFailed,
   c.dropIntegrity, c.overwritten, c.lostMasks]
/-- TallyCounters (R148). -/
def Tally.countersObject (t : Tally) : Option Obj :=
  recordOf (u64s 1 t.counters.list ++ [dom 0xD ((t.counters.list ++ [t.level]).map fun v => (8, v))])

/-- The block a region offset names, counted from a base of four (R367). -/
def regionBlock (r : RegionIx) (i : Nat) : BlockIx := ⟨r.val * 4 + i % 4, by omega⟩

/-- The objects of a region's template (R367). -/
def Device.regionObject (d : Device) (r : RegionIx) (off : Nat) : Option Obj :=
  let x := d.regions[r]
  if 0x68 ≤ off ∧ off < 0x6C then d.blockCalObject (regionBlock r (off - 0x68))
  else if 0x70 ≤ off ∧ off < 0x74 then d.ddsObject (regionBlock r (off - 0x70))
  else if 0x78 ≤ off ∧ off < 0x7C then d.adcObject (regionBlock r (off - 0x78))
  else if h : 0x80 ≤ off ∧ off < 0x84 then x.rails[off - 0x80].railObject (d.monRaw (.rail r ⟨off - 0x80, by omega⟩))
  else if h : 0x100 ≤ off ∧ off < 0x140 then x.sets[off - 0x100].object
  else match off with
    | 0x000 => single 4 x.run.ctlWord
    | 0x001 => x.run.statusObject x.seq.matched
    | 0x002 => x.adm.object
    | 0x010 => x.programObject
    | 0x020 => x.combObject
    | 0x030 => single 4 (b2n x.stallFold + x.restartDepth * 2 ^ 8)
    | 0x031 => x.stalls.object
    | 0x040 => recordOf (u64s 1 (x.masks.toList.map BitVec.toNat))
    | 0x060 => x.calPolicy.object
    | 0x088 => x.sentTiming.object
    | 0x0A0 => x.stale.object
    | 0x200 => x.tally.cfg.object
    | 0x201 => x.tallyStatusObject
    | 0x210 => x.tally.countersObject
    | _ => none

/-- A region offset that lies on the pin die (R367). -/
def onPinDie (off : Nat) : Bool := decide (0x68 ≤ off ∧ off < 0x89)

/-! ### Cell and Joker objects (R368, R369) -/

/-- CellState (R120). -/
def Device.cellStateObject (d : Device) (c : CellIx) : Option Obj :=
  let x := d.cells[c]
  let p := x.path
  recordOf [un 1 1 p.request.ctorIdx, un 2 1 p.state.ctorIdx, un 3 1 p.staticDrive.ctorIdx,
    un 4 4 (flagBits [d.folded c, false, x.tripped, p.substituted, p.remapped, p.levelsSettling]), si 5 2 x.cal.temp]

/-- Levels (R107). -/
def Levels.object (l : Levels) : Option Obj :=
  recordOf [si 1 4 l.vih, si 2 4 l.vil, si 3 4 l.vt, si 4 4 l.voh, si 5 4 l.vol, un 6 1 l.hyst,
    dom 0x10 [twos 4 l.vih, twos 4 l.vil, twos 4 l.vt, twos 4 l.voh, twos 4 l.vol, (1, l.hyst), (3, 0)]]

/-- ClearValues (R221). -/
def ClearValues.fields (v : ClearValues) : List (Nat × Nat) :=
  [twos 4 v.vih, twos 4 v.vil, twos 4 v.vt, twos 4 v.voh, twos 4 v.vol, twos 4 v.force, twos 4 v.clampVHigh, twos 4 v.clampVLow,
   (2, v.clampI), (6, 0)]
/-- PmuConfig (R209). -/
def PmuConfig.object (p : PmuConfig) : Option Obj :=
  recordOf [un 1 1 p.mode.ctorIdx, si 2 4 p.forceVoltage, si 3 8 p.forceCurrent, un 4 1 p.range, si 5 2 p.clampIHigh, si 6 2 p.clampILow,
    si 7 4 p.clampVHigh, si 8 4 p.clampVLow, un 9 2 p.loadSource, un 0xA 2 p.loadSink, un 0xB 4 p.options, un 0xC 1 (b2n p.current),
    un 0xD 4 p.samples, un 0xE 4 p.settle, un 0xF 1 (b2n p.waggle), un 0x10 1 0, dom 0x11 p.clear.fields]
/-- PmuMeasure (R218). -/
def Cell.measureObject (x : Cell) : Option Obj :=
  let m := x.meas
  let s := x.pmuStatus
  recordOf [un 1 1 m.state.ctorIdx, si 2 8 m.value, un 3 1 (b2n m.current), un 4 1 m.range, un 5 4 m.taken, si 6 8 m.minimum, si 7 8 m.maximum,
    un 8 8 m.time, un 9 4 m.sequence.toNat,
    un 0xA 4 (flagBits [m.disciplined, m.clampDuring, m.shortDuring, m.overrange, m.jokerMeasured, m.restarted, m.triggerIgnored]),
    un 0xB 4 (flagBits [s.clearHeld, s.transitional, s.clampActive, s.shortCircuit, s.kelvinOpen, decide (x.dds.term ≠ 0), s.measurePaused])]

/-- TmuConfig (R166). -/
def TmuConfig.object (t : TmuConfig) : Option Obj :=
  recordOf [un 1 1 t.mode.ctorIdx, un 2 4 t.options, si 3 4 t.refOffset, un 4 8 t.sampleLimit, un 5 8 t.gate, un 6 2 t.armCount, un 7 4 t.repeats,
    un 8 1 t.armSource, un 9 1 t.partner, un 0xA 1 0]
/-- Mean, in 1/256 fu (R164; log entry 72). -/
def TmuResult.mean (t : TmuResult) : Int := if t.count = 0 then 0 else roundEven (16 * t.sum) t.count
/-- StdDev, in 1/256 fu (R164; log entry 72). -/
def TmuResult.stdDev (t : TmuResult) : Nat :=
  if t.count = 0 then 0
  else roundSqrt (256 * ((t.count : Int) * t.sumSquares - t.sum * t.sum).toNat) (t.count * t.count)
/-- TmuResult.Flags (R169). -/
def TmuResult.flags (t : TmuResult) : Nat :=
  flagBits [t.limitReached, t.jokerStamps, t.binTableChanged, t.calSuspect, t.shedPaused, t.armIgnored]
/-- TmuResult (R169). -/
def TmuResult.object (t : TmuResult) : Option Obj :=
  let tail := [t.opportunities, t.noEdge, t.skipped, t.outOfRange, t.edges]
  recordOf ([un 1 1 t.state.ctorIdx, un 2 8 t.count, si 3 8 t.mean, un 4 8 t.stdDev, si 5 4 t.minimum, si 6 4 t.maximum, dom 7 [twos 12 t.sum],
      un 8 16 t.sumSquares]
    ++ u64s 9 tail
    ++ [un 0xE 4 t.flags,
        dom 0xF ([(8, t.count), twos 16 t.sum, (16, t.sumSquares), twos 4 t.minimum, twos 4 t.maximum, twos 8 t.mean, (8, t.stdDev)]
          ++ tail.map (fun v => (8, v)) ++ [(4, t.flags), (1, t.state.ctorIdx), (3, 0)])])

/-- CalStatus, with what a Joker's ball adds to the corrections it shows (R178, R201; log entry 48). -/
def CalUnit.object (u : CalUnit) (ball : Int) : Option Obj :=
  recordOf [un 1 1 u.state.ctorIdx, un 2 1 u.activity.ctorIdx, un 3 4 u.residual,
    un 4 4 (roundEven (u.residual * 30517578125) 25600000000).toNat, un 5 4 u.calCount, un 6 8 u.lastTime, si 7 2 u.lastTemp,
    si 8 4 (u.drive.applied + ball), si 9 4 (u.compare.applied + ball), si 0xA 4 u.drive.pending, si 0xB 4 u.compare.pending,
    un 0xC 4 u.deferrals, un 0xD 4 u.rejections, un 0xE 4 u.retries,
    un 0xF 4 (flagBits [u.disciplined, u.tempExcursion, u.trims.any fun w => decide (w.pending ≠ 0), u.swapBackLate, u.noJoker,
      u.factoryDefaults]),
    si 0x10 4 u.deskew, un 0x11 1 0]

/-- StrobeCounters (R113). -/
def StrobeCounters.object (k : StrobeCounters) : Option Obj :=
  let l := [k.strobes, k.pass, k.fail, k.masked, k.unjudged]
  recordOf (u64s 1 l ++ [dom 6 (l.map fun v => (8, v)), un 7 1 0])
/-- FirstFail; its defaults where the run has none (R118). -/
def firstFailObject : Option FirstFail → Option Obj
  | none => recordOf [un 1 8 0xFFFFFFFFFFFFFFFF, un 2 2 0, un 3 2 0xFFFF, un 4 4 0xFFFFFFFF, un 5 1 0xFF, un 6 1 0]
  | some f => recordOf [un 1 8 f.cycle, un 2 2 f.wraps, un 3 2 f.index, un 4 4 f.address, un 5 1 f.tset,
      un 6 1 (f.ordinal + f.expected.ctorIdx * 2 ^ 2 + f.observed.ctorIdx * 2 ^ 4)]
/-- DdsRoute (R228). -/
def DdsRoute.object (x : DdsRoute) : Option Obj := recordOf [un 1 1 (b2n x.enable), un 2 4 x.amplitude, un 3 2 x.phase, un 4 4 x.applied]

/-- The objects of a cell (R368). -/
def Device.cellObject (d : Device) (c : CellIx) (off : Nat) : Option Obj :=
  let x := d.cells[c]
  match off with
  | 0x0 => d.cellStateObject c
  | 0x1 => x.levels.object
  | 0x2 => single 4 x.formatTerm.toNat
  | 0x3 => x.pmu.object
  | 0x4 => x.measureObject
  | 0x5 => x.tmu.object
  | 0x6 => x.tmuResult.object
  | 0x7 => x.cal.object 0
  | 0x8 => recordOf x.sentinel.cfg.entries
  | 0x9 => recordOf (x.sentinel.statusEntries (d.monRaw (.cell c)) 1 x.railTrip)
  | 0xA => x.counters.object
  | 0xB => firstFailObject x.firstFail
  | 0xC => x.dds.object
  | 0xD => recordOf (d.collectorEntries (.cell c))
  | 0xE => recordOf (d.sourceEntries (.cell c) 1)
  | _ => none

/-- The objects of a Joker (R369). -/
def Device.jokerObject (d : Device) (b : BlockIx) (off : Nat) : Option Obj :=
  let x := d.blocks[b]
  match off with
  | 0x0 => recordOf [un 1 1 x.role.ctorIdx, un 2 1 (x.position.getD 0xFF), si 3 2 x.jokerCal.temp, un 4 4 x.swaps, un 5 1 (b2n (d.jokerFree b))]
  | 0x1 => recordOf [un 1 1 x.remapPosition]
  | 0x7 => x.jokerCal.object (Config.jokerBall b.val x.lastBall)
  | _ => none

/-! ### The index map (R366 to R369) -/

/-- Where an index lies. -/
inductive Place where
  | chip (idx : Nat)
  | region (r : RegionIx) (off : Nat)
  | cell (c : CellIx) (off : Nat)
  | joker (b : BlockIx) (off : Nat)
  deriving DecidableEq, Repr

/-- The place of an index. -/
def placeOf (idx : Nat) : Place :=
  if h : 0x3000 ≤ idx ∧ idx < 0x4000 then .region ⟨(idx - 0x3000) / 0x800, by omega⟩ ((idx - 0x3000) % 0x800)
  else if h : 0x4000 ≤ idx ∧ idx < 0x4800 then .cell ⟨(idx - 0x4000) / 16, by omega⟩ (idx % 16)
  else if h : 0x4800 ≤ idx ∧ idx < 0x4880 then .joker ⟨(idx - 0x4800) / 16, by omega⟩ (idx % 16)
  else .chip idx

/-- The object at an index, domain objects apart (R366 to R369; log entry 8). -/
def Device.objectAt (d : Device) (idx : Nat) : Option Obj :=
  match placeOf idx with
  | .chip i => d.chipObject i
  | .region r off => d.regionObject r off
  | .cell c off => d.cellObject c off
  | .joker b off => d.jokerObject b off

/-- A subindex as it reads (R349, R356; log entry 8). -/
def Device.entryAt (d : Device) (idx sub : Nat) : Option Entry :=
  match d.objectAt idx with
  | some o => o.entries.find? fun e => e.sub = sub
  | none => none

/-- Where a request to an index goes (R337, R359). -/
def targetOf (idx sub : Nat) : Target :=
  match placeOf idx with
  | .chip _ => chipTarget idx sub
  | .region r off => if onPinDie off then dieTarget r off sub else regionTarget r off sub
  | .cell c off => cellTarget c off sub
  | .joker b off => jokerTarget b off sub

end Sys2Proof.Machine
end

