-- ==== Sys2Proof/Machine/Dictionary.lean ====
section
/-!
DEFINITION. What a write of any object does: the object's own rules found from its index and subindex (R349 to R360), the host's
Write (R358, R363), and PatchControl, ModeRequest.Regions, SentinelTiming and EventRoutine, which have no row of their own to
write them (R241, R314, R316, R378).
-/
namespace Sys2Proof.Machine

/-! ### Registers without another home -/

/-- ModeRequest.Regions (R378): bits 7 to 2 are reserved. -/
def specRequestRegions (v : Nat) : WSpec where
  len := 1
  apply d := { d with modes := { d.modes with regions := v % 4 } }

/-- SentinelTiming (R241): accepted in every region mode. -/
def specSentTiming (r : RegionIx) (sub v : Nat) : WSpec where
  len := 4
  value := [inRangeN v (if sub = 1 then 10 else 100) 100000]
  apply d := d.onRegion r fun x =>
    { x with sentTiming := if sub = 1 then { x.sentTiming with tick := v } else { x.sentTiming with readback := v } }

/-- ContextStatus.EventRoutine (R316). -/
def specEventRoutine (x : CtxIx) (v : Nat) (d : Device) : WSpec where
  len := 2
  state := [(d.ryu.ctxs[x].unserved, 5, 3)]
  value := [(!(decide (0x180 ≤ v ∧ v < 0x200) || decide (v = 0xFFFF)), 7, 1)]
  apply := fun d => d.onCtx x fun c => { c with eventRoutine := v }

/-- PatchControl.ContextSel (R313; log entry 57). -/
def specContextSel (v : Nat) : WSpec where
  len := 1
  apply d := { d with ryu := { d.ryu with contextSel := v % 16 } }

/-- Who may load and arm patches (R312, R314, R425; log entry 57). -/
def Device.patchAccess (d : Device) (secure : Bool) : List Check :=
  [(decide (d.sec.life = .sealed) && !secure, 4, 2), (decide (d.sec.life = .retired), 4, 6)]

/-- The contexts ContextSel selects (R313). -/
def Device.selectedCtxs (d : Device) : List CtxIx := (List.finRange 4).filter fun x => bitAt d.ryu.contextSel x.val

/-- A context has a routine running or a request queued (R314). -/
def Context.occupied (c : Context) : Bool := c.running.isSome || !c.queue.isEmpty

/-- The scope of a context is not in Configure: by region mode for contexts 1 and 2, by DeviceMode for 0 and 3 (R314). -/
def Device.ctxClosed (d : Device) (x : CtxIx) : Check :=
  match ctxRegion x with
  | some r => (decide (d.regions[r].mode ≠ .configure), 5, 1)
  | none => (decide (d.modes.mode ≠ .configure), 5, 2)

/-- A bank by number. -/
def Ryuwister.bank (y : Ryuwister) (n : Nat) : Bank := if n = 0 then y.bank0 else y.bank1

/-- PatchControl.Command: 1 ArmBank0, 2 ArmBank1, 3 Disarm (R314; log entry 57). -/
def specPatchCmd (v : Nat) (secure : Bool) (d : Device) : WSpec :=
  let xs := d.selectedCtxs
  let arm := decide (v = 1 ∨ v = 2)
  let bank := d.ryu.bank (v - 1)
  if v = 0 then { len := 1, access := d.patchAccess secure, apply := id }
  else
    { len := 1
      access := d.patchAccess secure
      state := (xs.any fun x => d.ryu.ctxs[x].occupied, 5, 3) :: (arm && !bank.loaded, 5, 3) :: xs.map d.ctxClosed
      value := [codeCheck v 4, (decide (xs = []), 7, 4), (arm && xs.any fun x => !bitAt bank.contexts x.val, 7, 4)]
      apply := fun d => xs.foldl (fun d x => d.onCtx x fun c => { c with armed := if arm then v else 0 }) d }

/-- ARM_BANK0 (R314). -/
def execArmBank0 (h : Hdr) (s : State) : Host.Outcome State Fault Refusal :=
  onDev s fun d => d.writeCmd h (chipTarget 0x2410 2) 1 fun i d => specPatchCmd 1 (d.isSecure i h) d
/-- ARM_BANK1 (R314). -/
def execArmBank1 (h : Hdr) (s : State) : Host.Outcome State Fault Refusal :=
  onDev s fun d => d.writeCmd h (chipTarget 0x2410 2) 2 fun i d => specPatchCmd 2 (d.isSecure i h) d
/-- PATCH_DISARM (R314). -/
def execPatchDisarm (h : Hdr) (s : State) : Host.Outcome State Fault Refusal :=
  onDev s fun d => d.writeCmd h (chipTarget 0x2410 2) 3 fun i d => specPatchCmd 3 (d.isSecure i h) d

/-! ### The rules of every writable subindex -/

/-- Clear and SourceConfig of a chip, region or block collector (R404; log entry 67). -/
def Device.colSpec (d : Device) (col : ColId) (sub v : Nat) : Option WSpec :=
  if sub = 4 then some (specCollectorClear col v d)
  else if 0x10 ≤ sub ∧ sub < 0x10 + sourceCount col then some (specSource col (sub - 0x10) v d) else none

/-- Chip-level subindices (R366): `who` writes, and `secure` says that its request is one of a secure session. UnlockToken is
tried apart (R428). -/
def Device.chipSpec (d : Device) (who : Nat) (secure : Bool) (idx sub v : Nat) : Option WSpec :=
  if h : 0x2300 ≤ idx ∧ idx < 0x2340 then
    let k : WaggleIx := ⟨idx - 0x2300, by omega⟩
    if sub = 9 then some (specWaggleCmd k v who secure d)
    else if [1, 2, 3, 4, 6, 7].contains sub then some (specWaggle k sub v who d) else none
  else if h : 0x2118 ≤ idx ∧ idx < 0x2120 then d.colSpec (.block ⟨idx - 0x2118, by omega⟩) sub v
  else if h : 0x2420 ≤ idx ∧ idx < 0x2424 then
    if sub = 0xB then some (specEventRoutine ⟨idx - 0x2420, by omega⟩ v d) else none
  else if h : 0x2510 ≤ idx ∧ idx < 0x2514 then
    if sub = 0xB then some (specTrainCmd ⟨idx - 0x2510, by omega⟩ v d) else none
  else if h : 0x2500 ≤ idx ∧ idx < 0x2502 then
    if [7, 8, 9, 0xB, 0xC, 0x11].contains sub then some (specDramConfig ⟨idx - 0x2500, by omega⟩ sub v d) else none
  else if h : 0x2504 ≤ idx ∧ idx < 0x2506 then
    if sub = 1 ∨ sub = 2 then some (specShadow ⟨idx - 0x2504, by omega⟩ sub v d) else none
  else if h : 0x2520 ≤ idx ∧ idx < 0x2522 then
    if 1 ≤ sub ∧ sub ≤ 9 then some (specRegulator ⟨idx - 0x2520, by omega⟩ sub v d) else none
  else match idx, sub with
    | 0x1010, 4 => some (specSessionTimeout v)
    | 0x1011, 4 => some (specSessionTimeout v)
    | 0x1100, 1 => some (specNode v)
    | 0x1220, 0 => some (specHeartbeat v)
    | 0x1300, 2 => some (specPtp 2 v)
    | 0x1300, 3 => some (specPtp 3 v)
    | 0x1310, 1 => some (specSched 1 v d)
    | 0x1310, 2 => some (specSched 2 v d)
    | 0x1310, 3 => some (specSched 3 v d)
    | 0x1320, 1 => some (specSyncBus 1 v d)
    | 0x1320, 2 => some (specSyncBus 2 v d)
    | 0x1320, 3 => some (specSyncCmd v d)
    | 0x2001, 1 => some (specModeRequest v d)
    | 0x2001, 2 => some (specRequestRegions v)
    | 0x2010, 3 => some (specCoupling v d)
    | 0x2020, 8 => some (specClearPeak v)
    | 0x2021, 1 => some (specShedConfig 1 v)
    | 0x2021, 2 => some (specShedConfig 2 v)
    | 0x2021, 3 => some (specShedConfig 3 v)
    | 0x2040, 5 => some (specWarnLimit v)
    | 0x2100, 7 => some (specSummaryCmd v)
    | 0x2110, sub => d.colSpec .chip sub v
    | 0x2111, sub => d.colSpec (.region 0) sub v
    | 0x2112, sub => d.colSpec (.region 1) sub v
    | 0x2180, 1 => some (specLogCmd v)
    | 0x2190, 1 => some (specInject 1 v d)
    | 0x2190, 2 => some (specInject 2 v d)
    | 0x2190, 3 => some (specInject 3 v d)
    | 0x2190, 4 => some (specInjectCmd v d)
    | 0x2200, 3 => some (specKeyProvision v d)
    | 0x2200, 4 => some (specKeyCheck v)
    | 0x2200, 5 => some (specLifeCmd v secure d)
    | 0x2220, 5 => some (specUnlockMinutes v)
    | 0x2220, 7 => some (specDebugCmd v)
    | 0x2341, 0 => some (specClearConsumers v)
    | 0x2342, sub => if h : 1 ≤ sub ∧ sub ≤ 8 then some (specEvio ⟨sub - 1, by omega⟩ v d) else none
    | 0x2410, 1 => some (specContextSel v)
    | 0x2410, 2 => some (specPatchCmd v secure d)
    | 0x2540, 1 => some (specFence v)
    | _, _ => none

/-- Subindices of a region's template (R367). -/
def Device.regionSpec (d : Device) (r : RegionIx) (off sub v : Nat) : Option WSpec :=
  if 0x70 ≤ off ∧ off < 0x74 then
    let b := regionBlock r (off - 0x70)
    if sub = 5 then some (specDdsCmd b v d) else if sub = 1 ∨ sub = 2 then some (specDds b sub v) else none
  else if h : 0x80 ≤ off ∧ off < 0x84 then
    let m : MonId := .rail r ⟨off - 0x80, by omega⟩
    if sub = 0xA then some (specSentinelCmd m v d) else if 1 ≤ sub ∧ sub ≤ 9 then some (specSentinel m sub v d) else none
  else if 0x100 ≤ off ∧ off < 0x140 then
    if sub = 1 then some (specPeriod r (off - 0x100) v d)
    else if 0x40 ≤ sub ∧ sub < 0x80 then some (specCellTiming r (off - 0x100) (sub - 0x40) v d) else none
  else match off with
    | 0x000 => if sub = 0 then some (specRunCtl r v d) else none
    | 0x010 => if sub = 2 then some (specEntry r v) else none
    | 0x020 => if sub = 1 then some (specAnchored r v d) else none
    | 0x030 => if sub = 0 then some (specStallPolicy r v d) else none
    | 0x040 => if 1 ≤ sub ∧ sub ≤ 8 then some (specMask r sub v d) else none
    | 0x060 => if sub = 6 then some (specCalPolicyCmd r v) else if 1 ≤ sub ∧ sub ≤ 5 then some (specCalPolicy r sub v) else none
    | 0x088 => if sub = 1 ∨ sub = 2 then some (specSentTiming r sub v) else none
    | 0x200 => if 1 ≤ sub ∧ sub ≤ 9 then some (specTally r sub v d) else none
    | _ => none

/-- Subindices of a cell's objects (R368). -/
def Device.cellSpec (d : Device) (c : CellIx) (off sub v : Nat) : Option WSpec :=
  match off with
  | 0x0 => if sub = 1 then some (specPathRequest c v d) else if sub = 3 then some (specStaticDrive c v d) else none
  | 0x1 => if (1 ≤ sub ∧ sub ≤ 6) ∨ sub = 0x10 then some (specLevels c sub v d) else none
  | 0x2 => if sub = 0 then some (specFormatTerm c v d) else none
  | 0x3 =>
    if 1 ≤ sub ∧ sub ≤ 0xF then some (specPmu c sub v d)
    else if sub = 0x10 then some (specPmuCmd c v d) else if sub = 0x11 then some (specClear c v d) else none
  | 0x5 => if sub = 0xA then some (specTmuCmd c v d) else if 1 ≤ sub ∧ sub ≤ 9 then some (specTmu c sub v d) else none
  | 0x7 =>
    if sub = 0x10 then some (specDeskew c v d)
    else if sub = 0x11 then some (specCalCmd (cellBlock c) (cellPos c) v) else none
  | 0x8 =>
    if sub = 0xA then some (specSentinelCmd (.cell c) v d)
    else if 1 ≤ sub ∧ sub ≤ 9 then some (specSentinel (.cell c) sub v d) else none
  | 0xA => if sub = 7 then some (specStrobeClear c v d) else none
  | 0xC => if 1 ≤ sub ∧ sub ≤ 3 then some (specRoute c sub v d) else none
  | 0xD => if sub = 4 then some (specCollectorClear (.cell c) v d) else none
  | 0xE => if 1 ≤ sub ∧ sub ≤ 6 then some (specSource (.cell c) (sub - 1) v d) else none
  | _ => none

/-- Subindices of a Joker's objects (R369). -/
def Device.jokerSpec (d : Device) (b : BlockIx) (off sub v : Nat) : Option WSpec :=
  match off with
  | 0x1 => if sub = 1 then some (specRemap b v d) else none
  | 0x7 => if sub = 0x11 then some (specCalCmd b 16 v) else none
  | _ => none

/-- The rules of a writable subindex; none where a write has no rule: RO, CONST and subindex 0 of a record (R352). -/
def Device.specAt (d : Device) (who : Nat) (secure : Bool) (idx sub v : Nat) : Option WSpec :=
  match placeOf idx with
  | .chip i => d.chipSpec who secure i sub v
  | .region r off => d.regionSpec r off sub v
  | .cell c off => d.cellSpec c off sub v
  | .joker b off => d.jokerSpec b off sub v

/-! ### Domain objects (R362, R363) -/

/-- The domain objects (R362). -/
inductive DomObj where
  | vectors (r : RegionIx)
  | program (r : RegionIx)
  | timing (r : RegionIx)
  | failArea (r : RegionIx)
  | logDump
  | patch
  | comb (r : RegionIx)
  deriving DecidableEq, Repr

/-- The domain object at an index (R362). -/
def domainAt (idx : Nat) : Option DomObj :=
  match idx with
  | 0x5000 => some (.vectors 0)
  | 0x5001 => some (.vectors 1)
  | 0x5010 => some (.program 0)
  | 0x5011 => some (.program 1)
  | 0x5020 => some (.timing 0)
  | 0x5021 => some (.timing 1)
  | 0x5030 => some (.failArea 0)
  | 0x5031 => some (.failArea 1)
  | 0x5040 => some .logDump
  | 0x5050 => some .patch
  | 0x5060 => some (.comb 0)
  | 0x5061 => some (.comb 1)
  | _ => none

/-! ### WRITE -/

/-- A Write to any object (R352, R358, R360, R363). -/
def Device.hostWrite (d : Device) (h : Hdr) (i : Fin 16) (idx sub : Nat) (w : Data) : Device × Option Reply :=
  let refuse := fun (code reason : Nat) => (d, some (Reply.error { code, reason } idx sub))
  if (domainAt idx).isSome then (if sub = 0 then refuse 3 3 else refuse 2 0)
  else
    match d.objectAt idx with
    | none => refuse 1 0
    | some o =>
      if !(o.entries.any fun e => decide (e.sub = sub)) then refuse 2 0
      else if idx = 0x2220 ∧ sub = 4 then d.tryToken (d.dealerChecks i) (d.isSecure i h) w
      else match d.specAt (sessNo i) (d.isSecure i h) idx sub w.val with
        | none => refuse 3 1
        | some s => d.tryWrite (targetOf idx sub) w (d.dealerChecks i) s

/-- A Write message (R322). -/
def Device.writeMsg (d : Device) (h : Hdr) (idx sub : Nat) (w : Data) : Device :=
  d.receive h 4 fun i d => d.hostWrite h i idx sub w

/-- WRITE (R322, R358). -/
def execWrite (h : Hdr) (idx sub : Nat) (w : Data) (s : State) : Host.Outcome State Fault Refusal :=
  onDev s fun d => d.writeMsg h idx sub w

/-! ### Read (R322, R356) -/

/-- The pin die that holds an object has no power (R359). -/
def Device.objectOff (d : Device) (idx sub : Nat) : Bool := (d.dieCheck (targetOf idx sub)).1

/-- The answer to a Read (R322, R350, R356, R359, R360, R363): Length, and the bytes of the value, little-endian. -/
def Device.hostRead (d : Device) (idx sub : Nat) : Reply :=
  let refuse := fun (code reason : Nat) => Reply.error { code, reason } idx sub
  if (domainAt idx).isSome then (if sub = 0 then refuse 3 3 else refuse 2 0)
  else match d.objectAt idx, d.entryAt idx sub with
    | none, _ => refuse 1 0
    | some _, none => refuse 2 0
    | some _, some e =>
      if d.objectOff idx sub then refuse 5 5 else .ok (e.len :: bytesOf e.len (unsigned (8 * e.len) e.val))

/-- A Read message (R322). -/
def Device.readMsg (d : Device) (h : Hdr) (idx sub : Nat) : Device := d.receive h 3 fun _ d => (d, some (d.hostRead idx sub))

end Sys2Proof.Machine
end

