-- ==== Sys2Proof/Machine/Blocks.lean ====
section
/-!
DEFINITION. Block transfers (R327 to R329) and the domain objects: VectorSpace, SeqProgram, TimingTable, FailArea, LogDump,
PatchImage and CombImage (R47, R64, R71, R99, R150, R311, R312, R362 to R365, R414).
-/
namespace Sys2Proof.Machine

/-! ### The images of domain objects -/

/-- The region of a domain object. -/
def DomObj.region : DomObj → Option RegionIx
  | .vectors r | .program r | .timing r | .failArea r | .comb r => some r
  | _ => none

/-- The size of a domain object (R362); of PatchImage the longest image (R311; log entry 53). -/
def Device.domSize (d : Device) : DomObj → Nat
  | .vectors r => d.regions[r].dram.vectorBytes
  | .program _ => 262144
  | .timing _ => 262144
  | .failArea r => 24 * d.regions[r].dram.areaCapacity
  | .logDump => 32768
  | .patch => 68 + 16 * 1024 + 4 * 512
  | .comb r => 32 * d.regions[r].anchored

/-- One byte of the image of a timing set (R47). -/
def TimingSet.byte (t : TimingSet) (j : Nat) : Nat :=
  if j < 8 then t.period / 2 ^ (8 * j) % 256
  else if j < 12 then t.status.word / 2 ^ (8 * (j - 8)) % 256
  else if 64 ≤ j ∧ j < 2624 then (t.entry ((j - 64) / 40)).toNat / 2 ^ (8 * ((j - 64) % 40)) % 256
  else 0

/-- One byte of a domain object that is not held in DRAM (R47, R63, R71, R414). -/
def Device.domByte (d : Device) (o : DomObj) (j : Nat) : Nat :=
  match o with
  | .program r => (d.regions[r].program.getD (j / 16) 0).toNat / 2 ^ (8 * (j % 16)) % 256
  | .timing r => (d.regions[r].set' (j / 4096)).byte (j % 4096)
  | .logDump => ((getKey (j / 16) d.log.slots).elim 0 LogSlot.read) / 2 ^ (8 * (j % 16)) % 256
  | .comb r => (d.regions[r].combAt (j / 32)).data.toNat / 2 ^ (8 * (j % 32)) % 256
  | _ => 0

/-- Bytes of a domain object that is not held in DRAM. -/
def Device.domBytes (d : Device) (o : DomObj) (off len : Nat) : List Byte :=
  (List.range len).map fun k => BitVec.ofNat 8 (d.domByte o (off + k))

/-! ### The rules of a transfer (R150, R327, R362, R364, R365) -/

/-- The region's DRAM refuses port H (R272; log entry 53). -/
def Device.refusesH (d : Device) (r : RegionIx) : Bool :=
  decide (4 ≤ d.shed.stage) || match d.regions[r].dram.state with
    | .changing => true
    | .selfRefresh => decide (d.regions[r].mode ≠ .fold)
    | _ => false

/-- Region mode Off. -/
def Device.offCheck (d : Device) (r : RegionIx) : Check := (decide (d.regions[r].mode = .off), 5, 1)

/-- Offset and Length lie within the object (R327). -/
def Device.rangeCheck (d : Device) (o : DomObj) (off len : Nat) : Check := (decide (len = 0 ∨ d.domSize o < off + len), 7, 3)

/-- The session has a block transfer open (R327). -/
def Device.transferCheck (d : Device) (i : Fin 16) : Check := (d.link.sessions[i].transfer.isSome, 5, 4)

/-- What stands against a ReadBlock (R71, R150, R352, R365, R416; log entry 53). -/
def Device.readChecks (d : Device) (o : DomObj) (off len : Nat) : List Check :=
  [(decide (o = .patch), 3, 2), (decide (d.sec.life = .blank), 4, 6), d.rangeCheck o off len] ++
    match o with
    | .vectors r => [d.offCheck r, (d.refusesH r, 5, 3)]
    | .failArea r => [d.offCheck r, (d.refusesH r, 5, 3)]
    | .comb r => [d.offCheck r]
    | _ => []

/-- The bank a PatchImage is loaded into: the lowest-numbered one no context has armed (R312). -/
def Device.patchTarget (d : Device) : Option Nat :=
  let free := fun n => (List.finRange 4).all fun x => decide (d.ryu.ctxs[x].armed ≠ n + 1)
  if free 0 then some 0 else if free 1 then some 1 else none

/-- What stands against a WriteBlock (R47, R64, R71, R312, R327, R352, R362, R365, R441; log entry 52). -/
def Device.blockSpec (d : Device) (o : DomObj) (secure : Bool) (off len : Nat) : WSpec :=
  let start : Check := (decide (off ≠ 0), 7, 1)
  let range := d.rangeCheck o off len
  match o with
  | .vectors r => { len := 0, state := [d.offCheck r, (d.refusesH r, 5, 3)], value := [range], apply := id }
  | .program r => { len := 0, state := [d.runCheck r], value := [start, range, (decide (len % 16 ≠ 0), 7, 3)], apply := id }
  | .timing r => { len := 0, state := [d.busyCheck r], value := [start, range, (decide (len ≠ 262144), 7, 3)], apply := id }
  | .failArea _ => { len := 0, access := [(true, 3, 1)], apply := id }
  | .logDump => { len := 0, access := [(true, 3, 1)], apply := id }
  | .patch =>
    { len := 0, access := d.patchAccess secure
      state := [(decide (d.modes.mode ≠ .configure) && !regionsAll.any (fun r => decide (d.regions[r].mode = .configure)), 5, 2),
                (decide (d.patchTarget = none), 5, 3)]
      value := [start, range], apply := id }
  | .comb r =>
    { len := 0, state := [d.busyCheck r, (decide (d.regions[r].comb = .scrubbing), 5, 3)], value := [start, range], apply := id }

/-- The target of a block transfer (R337). -/
def bulkTarget (o : DomObj) (idx : Nat) : Target := { idx, sub := 0, region := o.region, pinDie := false }

/-! ### What staged data does (R47, R64, R71, R311, R312) -/

/-- Bytes in groups of `n`, each as a little-endian number; at most so many groups. -/
def groups (n : Nat) : Nat → List Nat → List Nat
  | 0, _ => []
  | k + 1, l => if l = [] then [] else numOf (l.take n) :: groups n k (l.drop n)

/-- A program (R64). -/
def Device.putProgram (d : Device) (r : RegionIx) (bytes : List Nat) : Device :=
  (d.onRegion r fun x => { x with program := (groups 16 16384 bytes).map fun v => BitVec.ofNat 128 v }).invalidate r

/-- A timing set from its 4 096 bytes (R47). -/
def TimingSet.ofBytes (t : TimingSet) (bytes : List Nat) : TimingSet :=
  let cells := groups 40 64 ((bytes.drop 64).take 2560)
  ({ t with period := numOf (bytes.take 8), cells := vmap (fun p _ => CellEntry.ofNat (cells.getD p 0)) t.cells }).revalidate
    Config.grade32

/-- Every timing set of a region (R47). -/
def Device.putTiming (d : Device) (r : RegionIx) (bytes : List Nat) : Device :=
  (d.onRegion r fun x => { x with sets := vmap (fun k (t : TimingSet) => t.ofBytes ((bytes.drop (4096 * k)).take 4096)) x.sets }).invalidate r

/-- The anchored area from byte 0 on (R71): what lies beyond the written length stays. -/
def Device.putComb (d : Device) (r : RegionIx) (bytes : List Nat) : Device :=
  let old := d.regions[r].combData
  let n := bytes.length
  let merge := fun (k v : Nat) =>
    let keep := (d.regions[r].combAt k).data.toNat
    if n < 32 * (k + 1) then v + keep / 2 ^ (8 * (n - 32 * k)) * 2 ^ (8 * (n - 32 * k)) else v
  let vals := groups 32 Config.combEntries bytes
  let fresh := (vals.zipIdx.map fun (v, k) => (k, CombEntry.make k (BitVec.ofNat 256 (merge k v)))).filter fun x =>
    decide (x.2 ≠ CombEntry.make x.1 0)
  let rest := old.filter fun x => decide (vals.length ≤ x.1)
  (d.onRegion r fun x => { x with combData := fresh ++ rest, comb := .valid }).invalidate r

/-- A patch image, its fields as they stand (R311). -/
structure Image where
  magic : Nat
  format : Nat
  rom : Nat
  version : Nat
  words : List Nat
  overrides : List Nat
  wordCount : Nat
  entryCount : Nat
  contexts : Nat
  crc : Nat
  crcOk : Bool
  deriving DecidableEq, Repr

/-- The image that bytes spell (R311; log entry 57). -/
def Image.ofBytes (bs : List Nat) : Image :=
  let at' := fun (off n : Nat) => numOf ((bs.drop off).take n)
  let w := at' 16 2
  let e := at' 18 2
  let last := 64 + 16 * w + 4 * e
  { magic := at' 0 4, format := at' 4 2, rom := at' 8 4, version := at' 12 4, wordCount := w, entryCount := e, contexts := at' 20 1 % 16
    words := groups 16 w ((bs.drop 64).take (16 * w))
    overrides := groups 4 e ((bs.drop (64 + 16 * w)).take (4 * e))
    crc := at' last 4
    crcOk := decide (last + 4 ≤ bs.length) && decide (crc32 (bs.take last) = at' last 4) }

/-- An address that a patch may name (R311). -/
def Image.names (m : Image) (a : Nat) : Bool := decide (a < 0x2000 + m.wordCount)

/-- A header field, a Target or an override is outside its range (R312; log entry 56). -/
def Image.bad (m : Image) : Bool :=
  decide (m.magic ≠ 0x54505752) || decide (m.format ≠ 1) || decide (m.version = 0) || decide (m.wordCount = 0 ∨ 1024 < m.wordCount) ||
    decide (512 < m.entryCount) || decide (m.rom ≠ Config.romVersion.toNat) || m.words.any (fun v => !m.names (field v 24 14)) ||
    m.overrides.any (fun v => !m.names (field v 16 14) || decide (0x200 ≤ field v 0 16))

/-- An address as a bank holds it: bank 1 adds 0x400 at or above 0x2000 (R312). -/
def relocate (n a : Nat) : Nat := if n = 1 ∧ 0x2000 ≤ a then a + 0x400 else a

/-- The bank that an image makes (R311, R312). -/
def Image.bank (m : Image) (n : Nat) : Bank where
  loaded := true
  version := m.version
  crc := m.crc
  contexts := m.contexts
  words := m.words.map fun v => BitVec.ofNat 128 (v + (relocate n (field v 24 14) - field v 24 14) * 2 ^ 24)
  overrides := m.overrides.map fun v => (field v 0 16, field v 30 2 * 2 ^ 14 + relocate n (field v 16 14))

/-- A bank changes (log entry 57). -/
def Device.putBank (d : Device) (n : Nat) (b : Bank) : Device :=
  { d with ryu := if n = 0 then { d.ryu with bank0 := b } else { d.ryu with bank1 := b } }

/-- The rules of the final frame of a staged write, and what the data does (R364). -/
def Device.dataSpec (d : Device) (o : DomObj) (secure : Bool) (off : Nat) (bytes : List Nat) : WSpec :=
  let s := d.blockSpec o secure off bytes.length
  match o with
  | .program r => { s with apply := fun d => d.putProgram r bytes }
  | .timing r => { s with apply := fun d => d.putTiming r bytes }
  | .comb r => { s with apply := fun d => d.putComb r bytes }
  | .patch =>
    let m := Image.ofBytes bytes
    { s with value := s.value ++ [(!m.crcOk, 6, 1), (m.bad, 7, 1), (decide (bytes.length ≠ 68 + 16 * m.wordCount + 4 * m.entryCount), 7, 3)]
             apply := fun d => match d.patchTarget with
               | some n => d.putBank n (m.bank n)
               | none => d }
  | _ => s

/-- A refused load leaves its bank Empty, whether it is refused at its request or once its data is there (R312; log entry 57). -/
def Device.patchRefused (d : Device) (o : DomObj) : Device :=
  match o, d.patchTarget with
  | .patch, some n => d.putBank n {}
  | _, _ => d

/-! ### Credits (R329) -/

/-- Open part credits on a port (log entry 6). -/
def Device.openCredits (d : Device) (p : PortIx) : Nat :=
  ((List.finRange 16).map fun i => match d.link.sessions[i].transfer with
    | some t => if t.write ∧ t.port = p then t.credits else 0
    | none => 0).sum

/-- A response of an open WriteBlock: it covers what was accepted, and grants credits, at most 1 024 open on the port; how many
the part grants is a free value (log entry 6). The payload is AckOffset and the credits. -/
def Device.ackBlock (d : Device) (i : Fin 16) : Device × Reply :=
  match d.link.sessions[i].transfer with
  | none => (d, .ok [])
  | some t =>
    let grant := min (Config.unstated d.free) (1024 - d.openCredits t.port)
    let d := (d.nextFree.onPort t.port fun x => { x with partGranted := x.partGranted + grant }).onSession i fun x =>
      { x with transfer := some { t with credits := t.credits + grant, since := t.since % 64, unacked := 0 } }
    (d, .interim [t.off + t.done, grant])

/-! ### READBLOCK and WRITEBLOCK (R327) -/

/-- A request for a block transfer that names no domain object, or a subindex that it has not (R357, R360). -/
def Device.notDomain (d : Device) (idx sub : Nat) : Refuse :=
  match d.objectAt idx with
  | none => { code := 1, reason := 0 }
  | some o => if o.entries.any fun e => decide (e.sub = sub) then { code := 3, reason := 3 } else { code := 2, reason := 0 }

/-- The credits of the frame that opens a ReadBlock apply to it (R329). -/
def Device.openRead (d : Device) (h : Hdr) (i : Fin 16) (idx off len : Nat) : Device :=
  let behind := match objectRegion idx with | some r => d.regions[r].dram.writes.length | none => 0
  let t : Transfer := { port := h.port, seq := h.seq, secure := h.secure, write := false, idx, off, len, credits := h.credits, behind,
                        node := h.node, tag := h.tag }
  ((d.onPort h.port fun x => { x with hostReturned := x.hostReturned - h.credits }).onSession i fun x => { x with transfer := some t }).owe i h

/-- READBLOCK: nothing is answered before the last frame has been sent (R327). -/
def Device.readBlock (d : Device) (h : Hdr) (i : Fin 16) (idx sub off len : Nat) : Device × Option Reply :=
  match domainAt idx with
  | none => (d, some (.error (d.notDomain idx sub) idx sub))
  | some o =>
    match firstRefusal ((decide (sub ≠ 0), 2, 0) :: d.transferCheck i :: d.readChecks o off len) with
    | some r => (d, some (.error r idx sub))
    | none => (d.openRead h i idx off len, none)

/-- A WriteBlock that passes its first checks opens its transfer and is answered with credits (log entry 52). -/
def Device.openWrite (d : Device) (h : Hdr) (i : Fin 16) (idx off len : Nat) : Device × Reply :=
  let t : Transfer := { port := h.port, seq := h.seq, secure := h.secure, write := true, idx, off, len, node := h.node,
                        tag := h.tag }
  (d.onSession i fun x => { x with transfer := some t }).ackBlock i

/-- WRITEBLOCK (R327, R364): the rules of access, state and length are checked at once (log entry 52). -/
def Device.writeBlock (d : Device) (h : Hdr) (i : Fin 16) (idx sub off len : Nat) : Device × Option Reply :=
  match domainAt idx with
  | none => (d, some (.error (d.notDomain idx sub) idx sub))
  | some o =>
    let s := d.blockSpec o (d.isSecure i h) off len
    let s := { s with state := d.transferCheck i :: s.state }
    match d.tryWrite { bulkTarget o idx with sub := sub } { len := 0, val := 0 } ((decide (sub ≠ 0), 2, 0) :: d.dealerChecks i) s with
    | (d, some (.ok _)) =>
      let (d, r) := d.openWrite h i idx off len
      (d, some r)
    | (d, r) => (if sub = 0 then d.patchRefused o else d, r)

/-! ### BLOCK_DATA (R327, R364, R365) -/

/-- Port-H writes are on their way to a region (R99, R263): during a run what a burst held is kept until a fence covers it
(log entry 52). -/
def Device.acceptWrite (d : Device) (r : RegionIx) (addr : Nat) (bytes : List Nat) : Device :=
  let ws := splitWrite addr (numOf bytes) bytes.length
  let m := d.regions[r].dram
  let number := d.fenceIssued.toNat
  let keep := fun (w : DramWrite) =>
    let known := decide ((m.readOnce r w.burst noErrors).step = 0) || m.writes.any fun (x : DramWrite) => decide (x.burst = w.burst)
    (w.burst, if known then some (BitVec.ofNat 512 (m.latest r w.burst)) else none, number)
  let running := d.regions[d.leader r].run.inProgress
  (d.onMem r fun m => { m with writes := m.writes ++ ws, rewritten := if running then m.rewritten ++ ws.map keep else m.rewritten }).serviceExit r

/-- The data of an accepted frame is held, or written at once (R364, R365); a credit is consumed (R329; log entry 52). -/
def Device.takeFrame (d : Device) (i : Fin 16) (t : Transfer) (bytes : List Byte) : Device :=
  let n := bytes.length
  let d := d.onPort t.port fun x => { x with partConsumed := x.partConsumed + 1 }
  let t := { t with done := t.done + n, credits := t.credits - 1, since := t.since + 1 }
  match domainAt t.idx with
  | some (.vectors r) =>
    let addr := t.off + t.done - n
    let bursts := (splitWrite addr 0 n).length
    (d.onSession i fun x => { x with transfer := some { t with unacked := t.unacked + bursts } }).acceptWrite r addr (bytes.map BitVec.toNat)
  | _ => d.onSession i fun x => { x with transfer := some { t with staged := t.staged ++ bytes } }

/-- A transfer ends with its final response, which covers all that was accepted (R327, R328). -/
def Device.finishBlock (d : Device) (i : Fin 16) (t : Transfer) (r : Reply) : Device :=
  (d.respond i t.ret r).endTransfer i

/-- The whole data of a staged write is there (R364). -/
def Device.applyStaged (d : Device) (i : Fin 16) (t : Transfer) (o : DomObj) : Device :=
  let secure := t.secure && d.link.sessions[i].secure
  let s := d.dataSpec o secure t.off (t.staged.map BitVec.toNat)
  let access := if d.isDealer i then [] else [((true, 4, 4) : Check)]
  match d.tryWrite (bulkTarget o t.idx) { len := 0, val := 0 } access s with
  | (d, some (.error r idx sub)) => (d.patchRefused o).finishBlock i t (.error r idx sub)
  | (d, _) => d.finishBlock i t (.ok [t.off + t.done])

/-- After an accepted frame: the final step, an interim response after every 64 frames, or nothing. -/
def Device.afterFrame (d : Device) (i : Fin 16) (o : DomObj) : Device :=
  match d.link.sessions[i].transfer with
  | none => d
  | some t =>
    if t.done < t.len then
      if t.since < 64 then d
      else
        let (d, r) := d.ackBlock i
        d.respond i t.ret r
    else match o with
      | .vectors _ => d.finishBlock i t (.ok [t.off + t.done])
      | _ => d.applyStaged i t o

/-- A frame that finds a streamed write no longer allowed ends it (R328, R334, R365; log entry 52). -/
def Device.streamRefusal (d : Device) (i : Fin 16) (o : DomObj) : Option Refuse :=
  match o with
  | .vectors r => firstRefusal [(!d.isDealer i, 4, 4), d.offCheck r, (d.refusesH r, 5, 3)]
  | _ => none

/-- A host BlockData frame at its turn (R327): it is not answered itself (log entry 52). -/
def Device.takeBlock (d : Device) (h : Hdr) (i : Fin 16) (off : Nat) (bytes : List Byte) : Device :=
  match d.link.sessions[i].transfer with
  | none => d
  | some t =>
    match domainAt t.idx with
    | none => d
    | some o =>
      if !t.write ∨ t.port ≠ h.port then d
      else if off ≠ t.off + t.done then
        if t.off + t.done < off then
          let (d, r) := d.ackBlock i
          d.respond i t.ret r
        else d
      else if t.credits = 0 ∨ bytes = [] ∨ 8192 < bytes.length ∨ t.len < t.done + bytes.length then d
      else match d.streamRefusal i o with
        | some r => d.finishBlock i t (.error r t.idx 0)
        | none => (d.takeFrame i t bytes).afterFrame i o

/-! ### BLOCK_DATA_SEND (R327) -/

/-- Errors strike an entry of the log, if its slot holds one (R253, R410). -/
def Log.strike (l : Log) (e : SlotErr) : Log :=
  { l with slots := l.slots.map fun x =>
      (x.1, if x.1 = e.slot.val then { word := x.2.word ^^^ e.word, chk := x.2.chk ^^^ e.chk } else x.2) }

/-- Errors strike entries of the log. -/
def Device.strikeLog (d : Device) (l : List SlotErr) : Device := { d with log := l.foldl Log.strike d.log }

/-- Entries of the log that fail their check as bytes of LogDump are read: each counts in LogHead.Damaged, and raises KeeperIntegrity
(R394, R410). -/
def Device.readLog (d : Device) (off len : Nat) : Device :=
  let bad := (d.log.slots.filter fun x => decide (off < 16 * x.1 + 16 ∧ 16 * x.1 < off + len) && !x.2.check.ok).length
  if bad = 0 then d
  else ({ d with log := { d.log with damaged := satAdd (maxU 32) d.log.damaged bad } }).raise .chip 9

/-- The bytes of the next frame of a ReadBlock, if they are there: bytes of DRAM have been read before. -/
def Device.frameBytes (d : Device) (t : Transfer) : Option (List Byte) :=
  match domainAt t.idx with
  | none => none
  | some o =>
    if (d.dramObject t.idx).isSome then (if t.lacks = 0 then some t.staged else none)
    else some (d.domBytes o (t.off + t.done) (min 8192 (t.len - t.done)))

/-- The part sends the next BlockData frame of a session's ReadBlock, which takes one host credit; after the last one it sends
the final response (R327, R329; log entry 52). -/
def Device.sendFrame (d : Device) (i : Fin 16) : Device :=
  match d.link.sessions[i].transfer with
  | none => d
  | some t =>
    if t.write ∨ t.credits = 0 then d
    else match d.frameBytes t with
      | none => d
      | some bytes =>
        let x := d.link.sessions[i]
        let t' := { t with done := t.done + bytes.length, staged := [], credits := t.credits - 1 }
        let d := d.onPort t.port fun x => { x with hostConsumed := x.hostConsumed + 1 }
        let d := d.onSession i fun x => ({ x with transfer := some t' }).sendOwn t.port
        let d := d.emit (d.link.frame i { t.ret with seq := x.own t.port, type := 7 } (.own ((t.off + t.done) :: bytes.map BitVec.toNat)))
        let d := if domainAt t.idx = some .logDump then d.readLog (t.off + t.done) bytes.length else d
        if t'.done < t.len then d else d.finishBlock i t' (.ok [])

/-- A WriteBlock without an accepted frame for 1 s (R327). -/
def Device.blockTimeout (d : Device) (i : Fin 16) : Device :=
  match d.link.sessions[i].transfer with
  | some t => if t.write then d.finishBlock i t (.error { code := 5, reason := 3 } t.idx 0) else d
  | none => d

/-! ### The commands -/

/-- A ReadBlock message (R327). -/
def Device.readBlockMsg (d : Device) (h : Hdr) (idx sub off len : Nat) : Device :=
  d.receive h 5 fun i d => d.readBlock h i idx sub off len
/-- A WriteBlock message (R327). -/
def Device.writeBlockMsg (d : Device) (h : Hdr) (idx sub off len : Nat) : Device :=
  d.receive h 6 fun i d => d.writeBlock h i idx sub off len
/-- A BlockData message of the host (R327). -/
def Device.blockDataMsg (d : Device) (h : Hdr) (off : Nat) (bytes : List Byte) : Device :=
  d.receive h 7 fun i d => (d.takeBlock h i off bytes, none)

/-- READBLOCK (R327). -/
def execReadblock (h : Hdr) (idx sub off len : Nat) (s : State) : Host.Outcome State Fault Refusal :=
  onDev s fun d => d.readBlockMsg h idx sub off len
/-- BLOCK_DATA_SEND (R327). -/
def execBlockDataSend (f : FrameSend) (s : State) : Host.Outcome State Fault Refusal :=
  onDev s fun d => (d.strikeLog f.struck).sendFrame f.session
/-- WRITEBLOCK (R327, R364). -/
def execWriteblock (h : Hdr) (idx sub off len : Nat) (s : State) : Host.Outcome State Fault Refusal :=
  onDev s fun d => d.writeBlockMsg h idx sub off len
/-- BLOCK_DATA (R327, R364, R365). -/
def execBlockData (h : Hdr) (off : Nat) (bytes : List Byte) (s : State) : Host.Outcome State Fault Refusal :=
  onDev s fun d => d.blockDataMsg h off bytes
/-- BLOCK_TRANSFER_TIMEOUT (R327). -/
def execBlockTransferTimeout (i : Fin 16) (s : State) : Host.Outcome State Fault Refusal := onDev s fun d => d.blockTimeout i

end Sys2Proof.Machine
end

