-- ==== Sys2Proof/Machine/Poke.lean ====
section
/-!
DEFINITION. Microcode writes of subindices that no host may write (R302, R352): the value that the part keeps at the subindex
is replaced. Where the part derives what the subindex reads from other state (limits, summaries, snapshots, capacities, modes
and powers), or the subindex is CONST, nothing is kept there and nothing changes (log entry 14).
-/
namespace Sys2Proof.Machine

/-- The name with a code; the old one where no name has it. -/
def pick {α : Type} (l : List α) (v : Nat) (old : α) : α := l.getD v old
/-- A count that reads all ones when it is absent. -/
def orNone (w v : Nat) : Option Nat := if v = maxU w then none else some v

/-! ### Chip-level objects -/

/-- ThenkoPort (R341). -/
def Port.poke (x : Port) (sub v : Nat) : Port :=
  match sub with
  | 2 => { x with link := v }
  | 3 => { x with fec := v }
  | 5 => { x with discarded := v }
  | 6 => { x with duplicates := v }
  | 7 => { x with outOfOrder := v }
  | 8 => { x with notifyDropped := v }
  | 9 => { x with partGranted := v }
  | 0xA => { x with partConsumed := v }
  | 0xB => { x with partReturned := v }
  | 0xC => { x with hostGranted := v }
  | 0xD => { x with hostConsumed := v }
  | 0xE => { x with hostReturned := v }
  | _ => x

/-- DealerState (R344). -/
def Link.pokeDealer (x : Link) (sub v : Nat) : Link :=
  match sub with
  | 1 => { x with dealer := { x.dealer with session := v } }
  | 2 => { x with dealer := { x.dealer with hostId := v } }
  | 3 => { x with dealer := { x.dealer with priority := v } }
  | 4 => { x with dealer := { x.dealer with cls := v } }
  | 5 => { x with dealer := { x.dealer with epoch := v } }
  | 8 => { x with vacateCause := pick [.none, .yield, .sessionEnd, .heartbeat, .epochConflict, .warmReset] v x.vacateCause }
  | 9 => { x with lastChange := v }
  | _ => x

/-- PtpStatus (R346). -/
def Ptp.poke (x : Ptp) (sub v : Nat) : Ptp :=
  match sub with
  | 1 => { x with state := pick [.disabled, .listening, .uncalibrated, .slave] v x.state }
  | 4 => { x with port := v }
  | 5 => { x with gm := v }
  | 6 => { x with offset := signed 64 v }
  | 7 => { x with delay := v }
  | _ => x

/-- ScheduledStart and SyncBus (R347, R348). -/
def Sched.poke (x : Sched) (bus : Bool) (sub v : Nat) : Sched :=
  match bus, sub with
  | false, 4 => { x with started := bitAt v 0, late := bitAt v 1, freeRunning := bitAt v 2 }
  | false, 5 => { x with startCycleTime := v }
  | true, 4 => { x with lastEdge := v }
  | true, 5 => { x with ignored := v }
  | _, _ => x

/-- DeviceMode and ModeRequest (R377, R378). -/
def Modes.poke (x : Modes) (req : Bool) (sub v : Nat) : Modes :=
  match req, sub with
  | false, 2 => { x with previous := pick [.dormant, .standby, .configure, .ready, .run, .calibrate, .fold, .factory] v x.previous }
  | false, 3 => { x with lastChange := v }
  | false, 4 => { x with wakeCause := pick [.none, .powerUp, .wakeFrame, .sentinel, .shedRecovery, .warmReset] v x.wakeCause }
  | true, 3 => { x with status := pick [.idle, .inProgress, .done] v x.status }
  | true, 4 => { x with lastRequest := v }
  | _, _ => x

/-- ShedStage (R389). -/
def Shed.poke (x : Shed) (sub v : Nat) : Shed :=
  match sub with
  | 1 => { x with stage := v }
  | 2 => { x with peak := v }
  | 3 => { x with cause := BitVec.ofNat 12 v }
  | 4 => { x with lastCause := BitVec.ofNat 12 v }
  | 5 => { x with episodes := v }
  | 6 => { x with lastOnset := v }
  | 7 => { x with lastRestore := v }
  | _ => x

/-- PowerReport and Temperatures (R383, R384). -/
def Report.poke (x : Report) (temps : Bool) (sub v : Nat) : Report :=
  match temps, sub with
  | false, 1 => { x with total := v }
  | false, 2 => { x with core := v }
  | false, 3 => { x with dieA := v }
  | false, 4 => { x with dieB := v }
  | false, 7 => { x with energy := v }
  | false, 8 => { x with updateTime := v }
  | true, 1 => { x with tempCore := signed 16 v }
  | true, 2 => { x with tempA := signed 16 v }
  | true, 3 => { x with tempB := signed 16 v }
  | true, 4 => { x with hottest := v }
  | true, 6 => { x with overTemp := v }
  | _, _ => x

/-- FaultSummary (R406). -/
def ChipFaults.poke (x : ChipFaults) (sub v : Nat) : ChipFaults :=
  match sub with
  | 4 => { x with chipParity := bitAt v 0 }
  | 5 => { x with voidEvent := bitAt v 0, voidCredit := bitAt v 1, voidLog := bitAt v 2 }
  | _ => x

/-- Sticky, Severe and Cause of a collector (R404). -/
def pokeSources (l : List Source) (sub v : Nat) : List Source :=
  match sub with
  | 1 => mapFrom (fun n s => { s with sticky := bitAt v n }) 0 l
  | 2 => mapFrom (fun n s => { s with severe := bitAt v n }) 0 l
  | 3 => mapFrom (fun n s => { s with cause := bitAt v n }) 0 l
  | _ => l

/-- SourceConfig of a fixed source (R397). -/
def Source.poke (s : Source) (v : Nat) : Source :=
  { s with threshold := field v 0 8, reaction := field v 8 3, windowMs := field v 16 22 }

/-- LogHead (R413). -/
def Log.poke (x : Log) (sub v : Nat) : Log :=
  match sub with
  | 1 => { x with written := v }
  | 2 => { x with held := v }
  | 3 => { x with overwritten := v }
  | 5 => { x with skipped := v }
  | 6 => { x with damaged := v }
  | _ => x

/-- Lifecycle, SessionSecurity and DebugAccess (R417, R424, R429). -/
def Security.poke (x : Security) (idx sub v : Nat) : Security :=
  match idx, sub with
  | 0x2200, 1 => { x with life := pick [.blank, .openLife, .sealed, .retired] v x.life }
  | 0x2200, 2 => { x with keyState := pick [.none, .staged, .programmed, .partly, .destroyed] v x.keyState }
  | 0x2200, 6 => { x with status := pick [.idle, .programming, .done, .failed] v x.status }
  | 0x2210, 2 => { x with failures := v }
  | 0x2210, 3 => { x with totalFailures := v }
  | 0x2210, 4 => { x with lockoutUntil := v }
  | 0x2210, 5 => { x with trailerFailures := v }
  | 0x2220, 2 => { x with unlocked := bitAt v 0 }
  | 0x2220, 6 => { x with unlockExpiry := v }
  | 0x2220, 8 => { x with refusedScans := v }
  | _, _ => x

/-- WaggleChannel (R294). -/
def WChan.poke (x : WChan) (sub v : Nat) : WChan :=
  match sub with
  | 5 => { x with owner := v }
  | 8 => { x with state := pick [.disabled, .enabled, .suspended] v x.state }
  | 0xA => { x with firings := v }
  | 0xB => { x with fired := v }
  | 0xC => { x with delivered := v }
  | 0xD => { x with merged := v }
  | 0xE => { x with overrun := v }
  | 0xF => { x with rateLimited := v }
  | 0x10 => { x with gated := v }
  | 0x11 => { x with coalesced := v }
  | 0x12 => { x with suspendedEvents := v }
  | 0x13 => { x with lastFireTime := v }
  | _ => x

/-- EvioLevels (R293). -/
def Waggle.pokeLevels (x : Waggle) (v : Nat) : Waggle :=
  { x with evio := vmap (fun n (e : Evio) => { e with level := bitAt v n }) x.evio }

/-- PatchControl (R313). -/
def Ryuwister.poke (x : Ryuwister) (sub v : Nat) : Ryuwister :=
  match sub with
  | 3 => { x with bank0 := { x.bank0 with loaded := bitAt v 0 } }
  | 4 => { x with bank1 := { x.bank1 with loaded := bitAt v 0 } }
  | 5 => { x with bank0 := { x.bank0 with version := v } }
  | 6 => { x with bank1 := { x.bank1 with version := v } }
  | 7 => { x with bank0 := { x.bank0 with crc := v } }
  | 8 => { x with bank1 := { x.bank1 with crc := v } }
  | 9 => { x with ctxs := vmap (fun n (c : Context) => { c with armed := field v (2 * n) 2 }) x.ctxs }
  | _ => x

/-- ContextStatus (R316): what a routine that runs shows of itself is derived. -/
def Context.poke (x : Context) (sub v : Nat) : Context :=
  match sub with
  | 3 => { x with lastPc := v }
  | 4 => { x with restarts := v }
  | 6 => { x with invocations := v }
  | 7 => { x with totalRestarts := v }
  | 8 => { x with livelocks := v }
  | 9 => { x with microFaults := v }
  | 0xA => { x with lastFault := v }
  | _ => x

/-- DramConfig (R274). -/
def Dram.pokeConfig (x : Dram) (sub v : Nat) : Dram :=
  match sub with
  | 1 => { x with populated := v }
  | 2 => { x with inService := v }
  | 3 => { x with width := v }
  | 4 => { x with ranks := v }
  | 5 => { x with density := v }
  | 6 => { x with capacity := v }
  | 0xD => { x with activeShadow := v }
  | 0xE => { x with dataRate := v }
  | 0xF => { x with epoch := v }
  | 0x10 => { x with state := pick [.absent, .training, .active, .selfRefresh, .serviceExit, .changing] v x.state }
  | _ => x

/-- TrainingStatus and DramErrors (R277, R279). -/
def DramChan.poke (x : DramChan) (errors : Bool) (sub v : Nat) : DramChan :=
  match errors, sub with
  | false, 1 => { x with state := pick [.absent, .untrained, .training, .trained, .retrainPending, .outOfService] v x.state }
  | false, 2 => { x with lastTime := v }
  | false, 3 => { x with lastTemp := signed 16 v }
  | false, 4 => { x with temp := signed 16 v }
  | false, 5 => { x with trainings := v }
  | false, 6 => { x with eyeRead := v }
  | false, 7 => { x with eyeWrite := v }
  | false, 8 => { x with worst := v }
  | false, 0xA => { x with disciplined := bitAt v 0, lastFailed := bitAt v 1 }
  | true, 1 => { x with errors := { x.errors with corrected := v } }
  | true, 2 => { x with errors := { x.errors with recovered := v } }
  | true, 3 => { x with errors := { x.errors with uncorrectable := v } }
  | true, 4 => { x with errors := { x.errors with crcFail := v } }
  | true, 5 => { x with errors := { x.errors with tagMismatch := v } }
  | true, 6 => { x with errors := { x.errors with mergeZeroed := v } }
  | true, 7 => { x with errors := { x.errors with refreshSame := v } }
  | true, 8 => { x with errors := { x.errors with refreshAll := v } }
  | _, _ => x

/-- Collectors of the chip level (R404). -/
def Device.pokeCollector (d : Device) (col : ColId) (sub v : Nat) : Device :=
  if sub < 0x10 then d.onSources col fun l => pokeSources l sub v else d.onSource col (sub - 0x10) fun s => s.poke v

/-- Chip-level objects (R366). -/
def Device.pokeChip (d : Device) (idx sub v : Nat) : Device :=
  if h : 0x2300 ≤ idx ∧ idx < 0x2340 then d.onChan ⟨idx - 0x2300, by omega⟩ fun x => x.poke sub v
  else if h : 0x2118 ≤ idx ∧ idx < 0x2120 then d.pokeCollector (.block ⟨idx - 0x2118, by omega⟩) sub v
  else if h : 0x2420 ≤ idx ∧ idx < 0x2424 then d.onCtx ⟨idx - 0x2420, by omega⟩ fun x => x.poke sub v
  else if h : 0x2500 ≤ idx ∧ idx < 0x2502 then d.onMem ⟨idx - 0x2500, by omega⟩ fun m => m.pokeConfig sub v
  else if h : 0x2510 ≤ idx ∧ idx < 0x2514 then d.onDram ⟨idx - 0x2510, by omega⟩ fun x => x.poke false sub v
  else if h : 0x2530 ≤ idx ∧ idx < 0x2534 then d.onDram ⟨idx - 0x2530, by omega⟩ fun x => x.poke true sub v
  else match idx, sub with
    | 0x1010, sub => d.onPort 0 fun x => x.poke sub v
    | 0x1011, sub => d.onPort 1 fun x => x.poke sub v
    | 0x1100, 2 => { d with link := { d.link with assigned := bitAt v 0 } }
    | 0x1200, 6 => d.onRegion 0 fun x => { x with dealer := { x.dealer with epoch := v } }
    | 0x1200, 7 => d.onRegion 1 fun x => { x with dealer := { x.dealer with epoch := v } }
    | 0x1200, sub => { d with link := d.link.pokeDealer sub v }
    | 0x1300, sub => { d with ptp := d.ptp.poke sub v }
    | 0x1310, sub => { d with sched := d.sched.poke false sub v }
    | 0x1320, sub => { d with sched := d.sched.poke true sub v }
    | 0x2000, sub => { d with modes := d.modes.poke false sub v }
    | 0x2001, sub => { d with modes := d.modes.poke true sub v }
    | 0x2010, 6 => (d.onRegion 0 fun x => { x with resumeRequired := bitAt v 0 }).onRegion 1 fun x => { x with resumeRequired := bitAt v 1 }
    | 0x2020, sub => { d with shed := d.shed.poke sub v }
    | 0x2030, sub => { d with report := d.report.poke false sub v }
    | 0x2040, sub => { d with report := d.report.poke true sub v }
    | 0x2100, sub => { d with chip := d.chip.poke sub v }
    | 0x2110, sub => d.pokeCollector .chip sub v
    | 0x2111, sub => d.pokeCollector (.region 0) sub v
    | 0x2112, sub => d.pokeCollector (.region 1) sub v
    | 0x2180, 2 => { d with log := { d.log with lastClear := v } }
    | 0x2181, sub => { d with log := d.log.poke sub v }
    | 0x2342, 9 => { d with waggle := d.waggle.pokeLevels v }
    | 0x2410, sub => { d with ryu := d.ryu.poke sub v }
    | 0x2540, 2 => { d with fenceIssued := BitVec.ofNat 32 v }
    | 0x2540, 3 => { d with fenceDone := BitVec.ofNat 32 v }
    | _, _ => { d with sec := d.sec.poke idx sub v }

/-! ### Region objects -/

/-- RunStatus (R98): Matched is the sequencer's. -/
def Run.poke (x : Run) (sub v : Nat) : Run :=
  match sub with
  | 1 => { x with state := pick [.idle, .admitting, .prefill, .armed, .running, .holding, .draining, .ended] v x.state }
  | 2 => { x with endReason := v }
  | 3 => { x with cycle := v }
  | 4 => { x with issued := v }
  | 5 => { x with planned := v }
  | 6 => { x with holds := v }
  | 7 => { x with index := v }
  | 8 => { x with wraps := v }
  | 9 => { x with balanceVoid := bitAt v 0 }
  | 0xA => { x with lastMatch := v }
  | _ => x

/-- RunAdmission (R95). -/
def Admission.poke (x : Admission) (sub v : Nat) : Admission :=
  match sub with
  | 1 => { x with result := pick [.none, .evaluating, .guaranteed, .gapless, .bestEffort, .notAdmitted] v x.result }
  | 2 => { x with reason := v }
  | 3 => { x with index := v }
  | 4 => { x with position := v }
  | 5 => { x with tsets := v }
  | 6 => { x with peak := v }
  | 7 => { x with limit := v }
  | 8 => { x with supply := v }
  | 9 => { x with maxHold := v }
  | _ => x

/-- StallCount (R88). -/
def Stalls.poke (x : Stalls) (sub v : Nat) : Stalls :=
  match sub with
  | 1 => { x with stalls := v }
  | 2 => { x with stallHolds := v }
  | 3 => { x with redirectHolds := v }
  | 4 => { x with firstCycle := orNone 64 v }
  | 5 => { x with firstIndex := orNone 16 v }
  | 6 => { x with own := v }
  | 7 => { x with redirects := v }
  | _ => x

/-- StalenessStatus (R444). -/
def Staleness.poke (x : Staleness) (sub v : Nat) : Staleness :=
  match sub with
  | 1 => { x with state := pick [.notRun, .running, .done, .abandoned] v x.state }
  | 2 => { x with trigger := pick [.none, .leaveOff, .standbyWake, .leaveFold] v x.trigger }
  | 3 => { x with findings := v }
  | 4 => { x with startTime := v }
  | 5 => { x with endTime := v }
  | 6 => { x with awayTime := v }
  | 7 => { x with staleUnits := v }
  | 8 => { x with combCorrected := v }
  | 9 => { x with combUncorrectable := v }
  | 0xA => { x with suspended := BitVec.ofNat 64 v }
  | 0xB => { x with oldEpoch := v }
  | _ => x

/-- TallyStatus (R147): FifoLevel, AreaCapacity and DropSeen are derived. -/
def Tally.poke (x : Tally) (sub v : Nat) : Tally :=
  match sub with
  | 1 => { x with state := pick [.idle, .capturing, .frozen, .draining, .held] v x.state }
  | 3 => { x with fifoPeak := v }
  | 5 => { x with nextSlot := v }
  | 6 => { x with freezeCycle := orNone 64 v }
  | 7 => { x with unfreezeCycle := orNone 64 v }
  | 8 => { x with thresholdReached := bitAt v 0, firstNComplete := bitAt v 1, areaFull := bitAt v 3 }
  | _ => x

/-- TallyCounters (R148): DroppedRecords is the sum of four others. -/
def TallyCounters.poke (x : TallyCounters) (sub v : Nat) : TallyCounters :=
  match sub with
  | 1 => { x with failVectors := v }
  | 2 => { x with notSelected := v }
  | 3 => { x with frozenSkipped := v }
  | 4 => { x with fails := v }
  | 5 => { x with stored := v }
  | 7 => { x with dropFifoFull := v }
  | 8 => { x with dropAreaFull := v }
  | 9 => { x with dropWriteFailed := v }
  | 0xA => { x with dropIntegrity := v }
  | 0xB => { x with overwritten := v }
  | 0xC => { x with lostMasks := v }
  | _ => x

/-- BlockCal, DdsConfig and BlockAdc (R200, R219, R227). -/
def Block.poke (x : Block) (group sub v : Nat) : Block :=
  match group, sub with
  | 0, 2 => { x with cycleCount := BitVec.ofNat 32 v }
  | 0, 3 => { x with refvReading := signed 32 v }
  | 1, 3 => { x with ddsState := pick [.stopped, .armed, .running, .frozen] v x.ddsState }
  | 1, 4 => { x with ddsPhase := BitVec.ofNat 32 v }
  | 2, 2 => { x with pmuConversions := v }
  | 2, 3 => { x with readbackConversions := v }
  | 2, 4 => { x with calConversions := v }
  | _, _ => x

/-- SentinelStatus, its subindices counted from 1 (R244): Raw is derived. -/
def Sentinel.poke (x : Sentinel) (sub v : Nat) : Sentinel :=
  match sub with
  | 1 => { x with sampled := pick [.unsettled, .below, .inside, .above] v x.sampled }
  | 2 => { x with output := pick [.unsettled, .clear, .alarm, .off] v x.output }
  | 3 => { x with tripped := bitAt v 0 }
  | 4 => { x with cause := pick [.none, .alarm, .unsettled, .readbackFault] v x.cause }
  | 5 => { x with onsetTime := v }
  | 6 => { x with endTime := v }
  | 7 => { x with onsets := v }
  | 8 => { x with trips := v }
  | 9 => { x with readbackLow := signed 32 v }
  | 0xA => { x with readbackHigh := signed 32 v }
  | 0xB => { x with onsetDisciplined := bitAt v 0, blanking := bitAt v 2, endDisciplined := bitAt v 3 }
  | _ => x

/-- A region's template (R367). -/
def Device.pokeRegion (d : Device) (r : RegionIx) (off sub v : Nat) : Device :=
  if 0x68 ≤ off ∧ off < 0x6C then d.onBlock (regionBlock r (off - 0x68)) fun x => x.poke 0 sub v
  else if 0x70 ≤ off ∧ off < 0x74 then d.onBlock (regionBlock r (off - 0x70)) fun x => x.poke 1 sub v
  else if 0x78 ≤ off ∧ off < 0x7C then d.onBlock (regionBlock r (off - 0x78)) fun x => x.poke 2 sub v
  else if h : 0x80 ≤ off ∧ off < 0x84 then
    d.onRegion r fun x => { x with rails := x.rails.set (off - 0x80) (x.rails[off - 0x80].poke (sub - 0x10) v) }
  else d.onRegion r fun x =>
    match off, sub with
    | 0x001, 9 => { x with run := x.run.poke 9 v, seq := { x.seq with matched := bitAt v 1 } }
    | 0x001, sub => { x with run := x.run.poke sub v }
    | 0x002, sub => { x with adm := x.adm.poke sub v }
    | 0x020, 3 => { x with comb := pick [.invalid, .valid, .scrubbing] v x.comb }
    | 0x031, sub => { x with stalls := x.stalls.poke sub v }
    | 0x088, 3 => { x with sentTiming := { x.sentTiming with count := v } }
    | 0x0A0, sub => { x with stale := x.stale.poke sub v }
    | 0x201, sub => { x with tally := x.tally.poke sub v }
    | 0x210, sub => { x with tally := { x.tally with counters := x.tally.counters.poke sub v } }
    | _, _ => x

/-! ### Cell and Joker objects -/

/-- CellState (R120): Folded and DriverTripped are derived. -/
def Cell.pokeState (x : Cell) (sub v : Nat) : Cell :=
  match sub with
  | 2 => { x with path := { x.path with state := pick [.isolated, .digital, .parametric, .digitalLoad, .joker, .bridge, .switching] v x.path.state } }
  | 4 => { x with path := { x.path with substituted := bitAt v 3, remapped := bitAt v 4, levelsSettling := bitAt v 5 } }
  | 5 => { x with cal := { x.cal with temp := signed 16 v } }
  | _ => x

/-- PmuMeasure (R218): DdsDriving is derived. -/
def Cell.pokeMeasure (x : Cell) (sub v : Nat) : Cell :=
  let m := x.meas
  match sub with
  | 1 => { x with meas := { m with state := pick [.idle, .queued, .settling, .converting, .done, .aborted] v m.state } }
  | 2 => { x with meas := { m with value := signed 64 v } }
  | 3 => { x with meas := { m with current := bitAt v 0 } }
  | 4 => { x with meas := { m with range := v } }
  | 5 => { x with meas := { m with taken := v } }
  | 6 => { x with meas := { m with minimum := signed 64 v } }
  | 7 => { x with meas := { m with maximum := signed 64 v } }
  | 8 => { x with meas := { m with time := v } }
  | 9 => { x with meas := { m with sequence := BitVec.ofNat 32 v } }
  | 0xA => { x with meas := { m with disciplined := bitAt v 0, clampDuring := bitAt v 1, shortDuring := bitAt v 2, overrange := bitAt v 3
                                     jokerMeasured := bitAt v 4, restarted := bitAt v 5, triggerIgnored := bitAt v 6 } }
  | 0xB => { x with pmuStatus := { x.pmuStatus with
               clearHeld := bitAt v 0, transitional := bitAt v 1, clampActive := bitAt v 2, shortCircuit := bitAt v 3
               kelvinOpen := bitAt v 4, measurePaused := bitAt v 6 } }
  | _ => x

/-- TmuResult (R169): Mean and StdDev are derived. -/
def TmuResult.poke (x : TmuResult) (sub v : Nat) : TmuResult :=
  match sub with
  | 1 => { x with state := pick [.off, .idle, .capturing, .complete, .paused] v x.state }
  | 2 => { x with count := v }
  | 5 => { x with minimum := signed 32 v }
  | 6 => { x with maximum := signed 32 v }
  | 9 => { x with opportunities := v }
  | 0xA => { x with noEdge := v }
  | 0xB => { x with skipped := v }
  | 0xC => { x with outOfRange := v }
  | 0xD => { x with edges := v }
  | 0xE => { x with limitReached := bitAt v 0, jokerStamps := bitAt v 1, binTableChanged := bitAt v 2, calSuspect := bitAt v 3
                    shedPaused := bitAt v 4, armIgnored := bitAt v 5 }
  | _ => x

/-- CalStatus (R201): the pending values, ResidualRmsPs and LevelsWalking are derived. -/
def CalUnit.poke (x : CalUnit) (ball : Int) (sub v : Nat) : CalUnit :=
  match sub with
  | 1 => { x with state := pick [.uncalibrated, .valid, .suspect, .stale] v x.state }
  | 2 => { x with activity := pick [.idle, .pending, .preloading, .tracking, .calibrating, .awaitSwapBack, .deferred] v x.activity }
  | 3 => { x with residual := v }
  | 5 => { x with calCount := v }
  | 6 => { x with lastTime := v }
  | 7 => { x with lastTemp := signed 16 v }
  | 8 => { x with drive := { x.drive with applied := signed 32 v - ball } }
  | 9 => { x with compare := { x.compare with applied := signed 32 v - ball } }
  | 0xC => { x with deferrals := v }
  | 0xD => { x with rejections := v }
  | 0xE => { x with retries := v }
  | 0xF => { x with disciplined := bitAt v 0, tempExcursion := bitAt v 1, swapBackLate := bitAt v 3, noJoker := bitAt v 4
                    factoryDefaults := bitAt v 5 }
  | _ => x

/-- StrobeCounters (R113). -/
def StrobeCounters.poke (x : StrobeCounters) (sub v : Nat) : StrobeCounters :=
  match sub with
  | 1 => { x with strobes := v }
  | 2 => { x with pass := v }
  | 3 => { x with fail := v }
  | 4 => { x with masked := v }
  | 5 => { x with unjudged := v }
  | _ => x

/-- FirstFail where it holds one (R118). -/
def FirstFail.poke (x : FirstFail) (sub v : Nat) : FirstFail :=
  match sub with
  | 1 => { x with cycle := v }
  | 2 => { x with wraps := v }
  | 3 => { x with index := v }
  | 4 => { x with address := v }
  | 5 => { x with tset := v }
  | 6 => { x with ordinal := field v 0 2, expected := pick [.low, .high, .mid, .lowOrHigh] (field v 2 2) x.expected
                  observed := pick [.low, .mid, .high] (field v 4 2) x.observed }
  | _ => x

/-- The objects of a cell (R368). -/
def Device.pokeCell (d : Device) (c : CellIx) (off sub v : Nat) : Device :=
  d.onCell c fun x =>
    match off with
    | 0x0 => x.pokeState sub v
    | 0x4 => x.pokeMeasure sub v
    | 0x6 => { x with tmuResult := x.tmuResult.poke sub v }
    | 0x7 => { x with cal := x.cal.poke 0 sub v }
    | 0x9 =>
      let s := x.sentinel.poke sub v
      if sub = 0xB then { x with sentinel := s, railTrip := bitAt v 4 } else { x with sentinel := s }
    | 0xA => { x with counters := x.counters.poke sub v }
    | 0xB => { x with firstFail := x.firstFail.map fun f => f.poke sub v }
    | 0xC => if sub = 4 then { x with dds := { x.dds with applied := v } } else x
    | 0xD => { x with faults := pokeSources x.faults sub v }
    | _ => x

/-- The objects of a Joker (R369). -/
def Device.pokeJoker (d : Device) (b : BlockIx) (off sub v : Nat) : Device :=
  d.onBlock b fun x =>
    match off, sub with
    | 0, 1 => { x with role := pick [.idle, .selfCal, .preloading, .tracking, .substituting, .remapped, .unavailable] v x.role }
    | 0, 2 => { x with position := orNone 8 v }
    | 0, 3 => { x with jokerCal := { x.jokerCal with temp := signed 16 v } }
    | 0, 4 => { x with swaps := v }
    | 7, sub => { x with jokerCal := x.jokerCal.poke (Config.jokerBall b.val x.lastBall) sub v }
    | _, _ => x

/-- Microcode replaces what the part keeps at a subindex that no host may write (R302; log entry 14). -/
def Device.poke (d : Device) (idx sub v : Nat) : Device :=
  match placeOf idx with
  | .chip i => d.pokeChip i sub v
  | .region r off => d.pokeRegion r off sub v
  | .cell c off => d.pokeCell c off sub v
  | .joker b off => d.pokeJoker b off sub v

end Sys2Proof.Machine
end

