-- ==== Sys2Proof/Machine/Micro.lean ====
section
/-!
DEFINITION. The microengine: control store, entry, the microwords, commit, abandonment, restart, the ends of a routine and
the order in which the contexts issue (R297 to R310).
-/
namespace Sys2Proof.Machine

/-! ### The control store (R300, R301) -/

/-- A field of a microword (R301). -/
def mw (w : BitVec 128) (lo n : Nat) : Nat := (w.extractLsb' lo n).toNat

/-- Op (R301). -/
def mwOp (w : BitVec 128) : Nat := mw w 114 6

/-- A reserved bit is set (R301; log entry 55). -/
def mwReserved (w : BitVec 128) : Bool := decide (mw w 96 2 ≠ 0) || decide (mw w 38 2 ≠ 0) || decide (mw w 0 24 ≠ 0)

/-- The Dwell of a word (R301). -/
def mwDwell (w : BitVec 128) : Nat := mw w 120 8

/-- A microword whose Op is END and whose reserved bits are 0, the other fields as they were (R301, R302). -/
def asEnd (w : BitVec 128) : BitVec 128 :=
  (w &&& ~~~(BitVec.ofNat 128 (0x3F * 2 ^ 114 + 3 * 2 ^ 96 + 3 * 2 ^ 38 + 0xFFFFFF))) ||| BitVec.ofNat 128 (0x19 * 2 ^ 114)

/-- The ROM address of the END word of the event routines (R300). -/
def endAddress : Nat := Config.endWord % 0x2000

/-- A word of the ROM (R300). -/
def romWord (a : Nat) : BitVec 128 := if a = endAddress then asEnd (Config.rom a) else Config.rom a

/-- An entry of the ROM: those of the event routines point to a single END word (R300). -/
def romEntry (n : Nat) : BitVec 16 :=
  if 0x180 ≤ n ∧ n < 0x200 then (Config.romEntry n).extractLsb' 14 2 ++ BitVec.ofNat 14 endAddress else Config.romEntry n

/-- The word at an address of the control store; none outside it. What a bank holds beyond its image no rule gives: a free
value (R300). -/
def Device.controlWord (d : Device) (a : Nat) : Option (BitVec 128) :=
  let free := BitVec.ofNat 128 (Config.unstated d.free)
  if a < 0x2000 then some (romWord a)
  else if a < 0x2400 then some ((d.ryu.bank0.words[a - 0x2000]?).getD free)
  else if a < 0x2800 then some ((d.ryu.bank1.words[a - 0x2400]?).getD free)
  else none

/-- The entry of a routine in a context: that of its armed bank, or of the ROM (R300, R311). -/
def Device.entryOf (d : Device) (x : CtxIx) (n : Nat) : BitVec 16 :=
  let c := d.ryu.ctxs[x]
  let entries := if c.armed = 0 then [] else (d.ryu.bank (c.armed - 1)).overrides
  match entries.find? fun o => o.1 = n with
  | some o => BitVec.ofNat 16 o.2
  | none => romEntry n

/-- Its urgency (R300). -/
def Device.urgency (d : Device) (x : CtxIx) (q : Request) : Nat := ((d.entryOf x q.routine).extractLsb' 14 2).toNat
/-- Its entry address (R300; log entry 56). -/
def Device.entryAddress (d : Device) (x : CtxIx) (n : Nat) : Nat := ((d.entryOf x n).extractLsb' 0 14).toNat

/-! ### Registers (R304) -/

/-- A register: r0 reads 0. -/
def Context.reg (c : Context) (i : Nat) : BitVec 64 := if i % 16 = 0 then 0 else c.regs[i % 16]
/-- A register is written; a write to r0 is discarded. -/
def Context.setReg (c : Context) (i : Nat) (v : BitVec 64) : Context :=
  if i % 16 = 0 then c else { c with regs := c.regs.set (i % 16) v }

/-- The registers at an entry: r1 to r4 hold the arguments, the others 0. -/
def entryRegs (args : List (BitVec 64)) : Vector (BitVec 64) 16 :=
  vmap (fun i _ => if 1 ≤ i ∧ i ≤ 4 then args.getD (i - 1) 0 else 0) (Vector.replicate 16 0)

/-- A routine enters, for the first time or again (R304). -/
def Context.enter (c : Context) (q : Request) (a : Nat) : Context :=
  { c with state := .running, running := some q, pc := a, regs := entryRegs q.args, z := false, n := false, c := false
           sinceCommit := 0, repeats := 0 }

/-! ### The ends of a routine (R308) -/

/-- The collector in which a context's sources are raised (R297). -/
def ctxCollector (x : CtxIx) : ColId := match ctxRegion x with | some r => .region r | none => .chip

/-- MicroLivelock, MicroFault and MicroIntegrity of that collector: 0, 1, 2 (R394). -/
def ctxSource (x : CtxIx) (k : Nat) : Nat := if (ctxRegion x).isSome then 14 + k else 4 + k

/-- Which source an ending code raises (R308, R313). -/
def codeKind (code : Nat) : Nat := if code = 0x10 then 0 else if code = 0x11 then 2 else 1

/-- An ending code is kept and counted (R313, R316). -/
def Context.countEnd (c : Context) (q : Request) (code : Nat) : Context :=
  let c := { c with lastFault := q.routine * 2 ^ 16 + code }
  if code = 0x10 then { c with livelocks := satAdd (maxU 32) c.livelocks 1 }
  else { c with microFaults := satAdd (maxU 32) c.microFaults 1 }

/-- The routine of a context ends without restart: its code is kept and counted, Transitional is cleared, the source raised
(R308, R313, R316). -/
def Device.endWith (d : Device) (x : CtxIx) (q : Request) (code : Nat) : Device :=
  ((d.clearTransitional q).onCtx x fun c => c.ended.countEnd q code).raise (ctxCollector x) (ctxSource x (codeKind code))

/-- A routine that has given way ends without restart, and the one that runs meanwhile goes on (R308). -/
def Device.endQueued (d : Device) (x : CtxIx) (q : Request) (code : Nat) : Device :=
  ((d.clearTransitional q).onCtx x fun c => ({ c with queue := c.queue.erase q } : Context).countEnd q code).raise (ctxCollector x)
    (ctxSource x (codeKind code))

/-- The routine of a range bridge sets the idle stage of its cell to the new range and presets it, at each of its entries with the
same values (R212, R305; log entry 45). -/
def Device.presetBridge (d : Device) (q : Request) : Device :=
  match q.transitional with
  | some c => d.onCell c Cell.presetStage
  | none => d

/-- An abandoned routine enters again, or ends as a livelock at the ninth abandonment (R306, R308; log entry 56). -/
def Device.reenter (d : Device) (x : CtxIx) (q : Request) (restarts : Nat) : Device :=
  if 8 < restarts then d.endWith x q 0x10
  else (d.presetBridge q).onCtx x fun c =>
    { c.enter q (d.entryAddress x q.routine) with restarts := restarts, totalRestarts := c.totalRestarts + 1 }

/-! ### Entry (R299, R304, R306) -/

/-- The request a context starts next: the highest urgency, the oldest among equals (R299). -/
def Device.nextRequest (d : Device) (x : CtxIx) : Option Request :=
  let l := d.ryu.ctxs[x].queue
  let top := (l.map (d.urgency x)).foldl max 0
  l.find? fun q => d.urgency x q = top

/-- A request of higher urgency than the routine that has not committed waits (R306; log entry 56). -/
def Device.preempted (d : Device) (x : CtxIx) : Bool :=
  let c := d.ryu.ctxs[x]
  match c.running with
  | some q => decide (c.state = .running) && c.queue.any fun o => decide (d.urgency x q < d.urgency x o)
  | none => false

/-- The routine is abandoned for it, and keeps its place ahead of the requests of its urgency (R306; log entry 56). -/
def Device.giveWay (d : Device) (x : CtxIx) : Device :=
  d.onCtx x fun c => match c.running with
    | some q => { c.ended with queue := { q with entered := true, restarts := c.restarts } :: c.queue }
    | none => c

/-- Its COMMIT connects that stage (R212; log entry 45). -/
def Device.connectBridge (d : Device) (q : Request) : Device :=
  match q.transitional with
  | some c => d.onCell c Cell.connectStage
  | none => d

/-- A request leaves the queue and its routine enters: the first time it is counted, and a delivery it serves is served
(R299, R304, R308, R310, R316). -/
def Device.enterRequest (d : Device) (x : CtxIx) (q : Request) : Device :=
  let d := d.onCtx x fun c => { c with queue := c.queue.erase q, running := some q }
  if q.entered then d.reenter x q (q.restarts + 1)
  else (d.presetBridge q).onCtx x fun c =>
    { c.enter { q with since := some d.time } (d.entryAddress x q.routine) with
      restarts := 0, invocations := c.invocations + 1, unserved := c.unserved && !q.event }

/-- The word boundary of a context: the dwell of its word has expired (R298, R306). -/
def Device.atBoundary (d : Device) (x : CtxIx) : Device := d.advanceTo d.ryu.ctxs[x].readyAt

/-- A context that runs no routine, or whose routine gives way at its word boundary, starts its next request; a halted context's
requests queue (R299, R306, R427). -/
def Device.startRoutine (d : Device) (x : CtxIx) : Device :=
  if !d.modes.clocks || d.ryu.ctxs[x].halted then d
  else
    let d := if d.preempted x then (d.atBoundary x).giveWay x else d
    if d.ryu.ctxs[x].running.isSome then d
    else match d.nextRequest x with
      | none => d
      | some q => d.enterRequest x q

/-! ### What the microwords do (R302, R303) -/

/-- What becomes of the routine after a word. -/
inductive MicroOut where
  /-- The next word is the one after it. -/
  | goes (d : Device)
  /-- The next word is the one at an address. -/
  | jumps (d : Device) (a : Nat)
  /-- A microcode fault with a code of R313. -/
  | faults (code : Nat)
  /-- END. -/
  | finishes

/-- Operand Ra (R301). -/
def Context.ra (c : Context) (w : BitVec 128) : BitVec 64 := c.reg (mw w 103 4)
/-- Register Rb (R301). -/
def Context.rb (c : Context) (w : BitVec 128) : BitVec 64 := c.reg (mw w 99 4)
/-- Operand B: Imm sign-extended, or Rb (R301, R302). -/
def Context.b (c : Context) (w : BitVec 128) : BitVec 64 :=
  if mw w 98 1 = 1 then (w.extractLsb' 64 32).signExtend 64 else c.rb w

/-- Z and N of a result, and C (R302). -/
def Context.flags (c : Context) (r : BitVec 64) (carry : Bool) : Context := { c with z := decide (r = 0), n := r.msb, c := carry }

/-- A word that only changes its context. -/
def microCtx (f : Context → BitVec 128 → Context) (d : Device) (x : CtxIx) (w : BitVec 128) : MicroOut :=
  .goes (d.onCtx x fun c => f c w)

/-- An ALU word (R302): the result and C go to Rd and the flags. -/
def microAlu (f : BitVec 64 → BitVec 64 → BitVec 64) (carry : BitVec 64 → BitVec 64 → Bool) : Device → CtxIx → BitVec 128 → MicroOut :=
  microCtx fun c w =>
    let r := f (c.ra w) (c.b w)
    (c.flags r (carry (c.ra w) (c.b w))).setReg (mw w 107 4) r

/-- A logic or shift word (R302): no rule gives its C, which is a free value. -/
def microLogic (f : BitVec 64 → BitVec 64 → BitVec 64) (d : Device) (x : CtxIx) (w : BitVec 128) : MicroOut :=
  microAlu f (fun _ _ => decide (Config.unstated d.free % 2 = 1)) d.nextFree x w

/-- Carry out of an addition. -/
def carryOf (a b : BitVec 64) : Bool := decide (2 ^ 64 ≤ a.toNat + b.toNat)
/-- Borrow of a subtraction. -/
def borrowOf (a b : BitVec 64) : Bool := decide (a.toNat < b.toNat)

/-- NOP (R302). -/
def microNop : Device → CtxIx → BitVec 128 → MicroOut := microCtx fun c _ => c
/-- MOV (R302). -/
def microMov : Device → CtxIx → BitVec 128 → MicroOut := microCtx fun c w => c.setReg (mw w 107 4) (c.b w)
/-- CMP (R302). -/
def microCmp : Device → CtxIx → BitVec 128 → MicroOut :=
  microCtx fun c w => c.flags (c.ra w - c.b w) (borrowOf (c.ra w) (c.b w))

/-- The object index of an object access (R302). -/
def Context.objIndex (c : Context) (w : BitVec 128) : Nat := (mw w 48 16 + (c.ra w).toNat) % 2 ^ 16

/-- An object as a register takes it: sign-extended where it is signed; what no rule gives is a free value (R302). -/
def Device.microRead (d : Device) (idx sub : Nat) : BitVec 64 :=
  match d.entryAt idx sub with
  | some e => if e.len ≤ 8 ∧ !d.objectOff idx sub then BitVec.ofInt 64 e.val else BitVec.ofNat 64 (Config.unstated d.free)
  | none => BitVec.ofNat 64 (Config.unstated d.free)

/-- RDOBJ (R302). -/
def microRdobj (d : Device) (x : CtxIx) (w : BitVec 128) : MicroOut :=
  let c := d.ryu.ctxs[x]
  let v := d.microRead (c.objIndex w) (mw w 40 8)
  .goes (d.nextFree.onCtx x fun c => c.setReg (mw w 107 4) v)

/-- A value is written to an object from microcode: access classes and sessions do not count; a write that the object's own rules of
state or of value refuse is a microcode fault (R302; log entry 14). -/
def Device.microWrite (d : Device) (idx sub len v : Nat) : MicroOut :=
  let v := v % 2 ^ (8 * len)
  match d.specAt d.link.dealer.session true idx sub v with
  | some s => if (firstRefusal (s.state ++ s.value)).isSome then .faults 4 else .goes (s.apply d)
  | none => .goes (d.poke idx sub v)

/-- The object of a word that writes one is there and small enough for a register (R302; log entry 14). -/
def Device.microTarget (d : Device) (idx sub : Nat) : Option Entry :=
  match d.entryAt idx sub with
  | some e => if e.len ≤ 8 ∧ !d.objectOff idx sub then some e else none
  | none => none

/-- WROBJ (R302; log entry 14). -/
def microWrobj (d : Device) (x : CtxIx) (w : BitVec 128) : MicroOut :=
  let c := d.ryu.ctxs[x]
  let idx := c.objIndex w
  let sub := mw w 40 8
  match d.microTarget idx sub with
  | some e => d.microWrite idx sub e.len (c.rb w).toNat
  | none => .faults 4

/-- ADDOBJ (R302): a microcode fault before COMMIT (log entry 14). -/
def microAddobj (d : Device) (x : CtxIx) (w : BitVec 128) : MicroOut :=
  let c := d.ryu.ctxs[x]
  let idx := c.objIndex w
  let sub := mw w 40 8
  if c.state ≠ .committed then .faults 2
  else match d.microTarget idx sub with
    | some e => d.microWrite idx sub e.len (BitVec.ofInt 64 e.val + c.rb w).toNat
    | none => .faults 4

/-- RDUNIT (R302): the layout of unit registers is not part of the rules, so the value read is free. -/
def microRdunit (d : Device) (x : CtxIx) (w : BitVec 128) : MicroOut :=
  let v := Config.unitRead d.free
  .goes (d.nextFree.onCtx x fun c => c.setReg (mw w 107 4) v)

/-- WRUNIT (R302; log entry 55). -/
def microWrunit (d : Device) (x : CtxIx) (w : BitVec 128) : MicroOut :=
  let c := d.ryu.ctxs[x]
  let a := (mw w 64 32 + (c.ra w).toNat) % 2 ^ 32
  .goes { d with ryu := { d.ryu with unitWrites := putKey a (c.rb w) d.ryu.unitWrites } }

/-- A branch condition (R303). -/
def Context.holds (c : Context) (cond : Nat) : Bool :=
  match cond with
  | 0 => true
  | 1 => c.z
  | 2 => !c.z
  | 3 => c.n
  | 4 => !c.n
  | 5 => c.c
  | 6 => !c.c
  | _ => c.unserved

/-- BR (R303). -/
def microBr (d : Device) (x : CtxIx) (w : BitVec 128) : MicroOut :=
  if d.ryu.ctxs[x].holds (mw w 111 3) then .jumps d (mw w 24 14) else .goes d

/-- COMMIT (R307); a second one is a microcode fault. -/
def microCommit (d : Device) (x : CtxIx) (_ : BitVec 128) : MicroOut :=
  if d.ryu.ctxs[x].state = .committed then .faults 3
  else
    let d := match d.ryu.ctxs[x].running with | some q => d.connectBridge q | none => d
    .goes (d.onCtx x fun c => { c with state := .committed, sinceCommit := 0 })

/-- END (R302). -/
def microEnd (_ : Device) (_ : CtxIx) (_ : BitVec 128) : MicroOut := .finishes

/-- FAULT (R302). -/
def microFault (_ : Device) (_ : CtxIx) (w : BitVec 128) : MicroOut := .faults (0x80 + mw w 64 7)

/-- LOG (R302, R412): a microcode fault before COMMIT (log entry 55). -/
def microLog (d : Device) (x : CtxIx) (w : BitVec 128) : MicroOut :=
  let c := d.ryu.ctxs[x]
  if c.state ≠ .committed then .faults 2 else .goes (d.addLog 0 (mw w 64 16) (c.rb w).toNat)

/-- The micro-operations by their codes (R302); none is reserved (log entry 55). -/
def microEffect (op : Nat) : Option (Device → CtxIx → BitVec 128 → MicroOut) :=
  match op with
  | 0x00 => some microNop
  | 0x01 => some microMov
  | 0x02 => some (microAlu (· + ·) carryOf)
  | 0x03 => some (microAlu (· - ·) borrowOf)
  | 0x04 => some (microLogic (· &&& ·))
  | 0x05 => some (microLogic (· ||| ·))
  | 0x06 => some (microLogic (· ^^^ ·))
  | 0x07 => some (microLogic fun a b => a <<< (b.toNat % 64))
  | 0x08 => some (microLogic fun a b => a >>> (b.toNat % 64))
  | 0x09 => some microCmp
  | 0x0A => some microRdobj
  | 0x0B => some microWrobj
  | 0x0C => some microAddobj
  | 0x0D => some microRdunit
  | 0x0E => some microWrunit
  | 0x10 => some microBr
  | 0x18 => some microCommit
  | 0x19 => some microEnd
  | 0x1A => some microFault
  | 0x1B => some microLog
  | _ => none

/-- A word that accesses an object or a unit, whose target can answer Busy (R306). -/
def accesses (op : Nat) : Bool := decide (0x0A ≤ op ∧ op ≤ 0x0E)

/-! ### Issue (R298, R301, R306 to R308) -/

/-- A word was issued; where the routine still runs, the next one is at `a`. A committed routine's words are counted, unless
it is halted (R307, R427). -/
def Device.goTo (d : Device) (x : CtxIx) (a : Nat) : Device :=
  d.onCtx x fun c =>
    if c.running.isNone then c
    else { c with pc := a, repeats := 0
                  sinceCommit := if c.state = .committed ∧ !c.halted then c.sinceCommit + 1 else c.sinceCommit }

/-- A word executes (log entry 55). -/
def Device.executeWord (d : Device) (x : CtxIx) (q : Request) (w : BitVec 128) : Device :=
  let a := d.ryu.ctxs[x].pc
  let d := d.onCtx x fun c => { c with lastPc := a }
  match microEffect (mwOp w) with
  | none => d.endWith x q 1
  | some f =>
    match f d x w with
    | .goes d => d.goTo x (a + 1)
    | .jumps d t => d.goTo x t
    | .faults code => d.endWith x q code
    | .finishes => (d.clearTransitional q).onCtx x Context.ended

/-- The word cannot execute this time: before COMMIT the routine restarts, after it the word is repeated (R306, R307). After
eight repeats a corrected word executes and an access that is still answered Busy is passed over (log entry 55). -/
def Device.notExecuted (d : Device) (x : CtxIx) (q : Request) (w : BitVec 128) (busy : Bool) : Device :=
  let c := d.ryu.ctxs[x]
  let d := if busy then d.onCtx x fun c => { c with lastPc := c.pc } else d
  if c.state ≠ .committed then d.reenter x q (c.restarts + 1)
  else if c.repeats < 8 ∨ c.halted then d.onCtx x fun c => { c with repeats := if c.halted then c.repeats else c.repeats + 1 }
  else if busy then d.goTo x (c.pc + 1) else d.executeWord x q w

/-- A context is ready from this FCLK cycle on, at the earliest when the engine can issue again: it runs a routine, is not halted, and
the dwell of its last word has expired (R298). -/
def Device.readyCycle (d : Device) (x : CtxIx) : Option Nat :=
  let c := d.ryu.ctxs[x]
  if c.running.isNone || c.halted then none else some (max c.readyAt (max d.fclk d.ryu.nextIssue))

/-- The contexts in the order in which the engine looks at them (R298). -/
def Device.issueOrder (d : Device) : List CtxIx :=
  (List.range 4).map fun i => ⟨(d.ryu.lastIssuer.val + 1 + i) % 4, by omega⟩

/-- The context that issues next, and the FCLK cycle in which it does: of those that are ready first, the first in the order (R298). -/
def Device.nextTurn (d : Device) : Option (CtxIx × Nat) :=
  let ready := d.issueOrder.filterMap fun x => (d.readyCycle x).map fun t => (x, t)
  ready.find? fun (_, t) => ready.all fun (_, u) => decide (t ≤ u)

/-- The engine issues a word of a context in an FCLK cycle: it can issue again in the next one, and the word occupies its context for
Dwell + 1 cycles (R298; log entry 55). -/
def Device.takeSlot (d : Device) (x : CtxIx) (cy dwell : Nat) : Device :=
  let d := d.advanceTo cy
  ({ d with ryu := { d.ryu with lastIssuer := x, nextIssue := cy + 1 } }).onCtx x fun c => { c with readyAt := cy + dwell + 1 }

/-- The context issues its next word in an FCLK cycle, which row `op` of the commands names; nothing happens where the word has another Op. A
fault of the fetch or of the word's form, and an uncorrectable error, come with any row. -/
def Device.issueWord (d : Device) (x : CtxIx) (cy op : Nat) (ev : MicroEv) (q : Request) : Device :=
  let c := d.ryu.ctxs[x]
  match d.controlWord c.pc with
  | none => (d.takeSlot x cy 0).endWith x q 5
  | some w =>
    let e := d.takeSlot x cy (mwDwell w)
    if ev = MicroEv.uncorrectable then e.endWith x q 0x11
    else if c.state = .committed ∧ 256 ≤ c.sinceCommit ∧ !c.halted then e.endWith x q 6
    else if mwReserved w ∨ (microEffect (mwOp w)).isNone then (e.onCtx x fun c => { c with lastPc := c.pc }).nextFree.endWith x q 1
    else if mwOp w ≠ op then d
    else if ev = MicroEv.corrected then e.nextFree.notExecuted x q w false
    else if ev = MicroEv.busy ∧ accesses op then e.nextFree.notExecuted x q w true
    else e.nextFree.executeWord x q w

/-- A context whose clocks run and that is not halted: at its word boundary a routine that gives way does so (R306); else its next word
issues if it is the context's turn, and another context issues first if it is not (R298; log entry 55). -/
def Device.micro (d : Device) (x : CtxIx) (op : Nat) (ev : MicroEv) : Device :=
  let c := d.ryu.ctxs[x]
  if !d.modes.clocks || c.halted then d
  else match c.running with
    | none => d
    | some q =>
      if d.preempted x then (d.atBoundary x).giveWay x
      else match d.nextTurn with
        | some (y, cy) => if y = x then d.issueWord x cy op ev q else d
        | none => d

/-! ### The commands -/

/-- ROUTINE_START (R299). -/
def execRoutineStart (x : CtxIx) (s : State) : Host.Outcome State Fault Refusal := onDev s fun d => d.startRoutine x
/-- NOP (R302). -/
def execMicroNop (x : CtxIx) (ev : MicroEv) (s : State) : Host.Outcome State Fault Refusal :=
  onDev s fun d => d.micro x 0x00 ev
/-- MOV (R302). -/
def execMicroMov (x : CtxIx) (ev : MicroEv) (s : State) : Host.Outcome State Fault Refusal :=
  onDev s fun d => d.micro x 0x01 ev
/-- ADD (R302). -/
def execMicroAdd (x : CtxIx) (ev : MicroEv) (s : State) : Host.Outcome State Fault Refusal :=
  onDev s fun d => d.micro x 0x02 ev
/-- SUB (R302). -/
def execMicroSub (x : CtxIx) (ev : MicroEv) (s : State) : Host.Outcome State Fault Refusal :=
  onDev s fun d => d.micro x 0x03 ev
/-- AND (R302). -/
def execMicroAnd (x : CtxIx) (ev : MicroEv) (s : State) : Host.Outcome State Fault Refusal :=
  onDev s fun d => d.micro x 0x04 ev
/-- OR (R302). -/
def execMicroOr (x : CtxIx) (ev : MicroEv) (s : State) : Host.Outcome State Fault Refusal :=
  onDev s fun d => d.micro x 0x05 ev
/-- XOR (R302). -/
def execMicroXor (x : CtxIx) (ev : MicroEv) (s : State) : Host.Outcome State Fault Refusal :=
  onDev s fun d => d.micro x 0x06 ev
/-- SHL (R302). -/
def execMicroShl (x : CtxIx) (ev : MicroEv) (s : State) : Host.Outcome State Fault Refusal :=
  onDev s fun d => d.micro x 0x07 ev
/-- SHR (R302). -/
def execMicroShr (x : CtxIx) (ev : MicroEv) (s : State) : Host.Outcome State Fault Refusal :=
  onDev s fun d => d.micro x 0x08 ev
/-- CMP (R302). -/
def execMicroCmp (x : CtxIx) (ev : MicroEv) (s : State) : Host.Outcome State Fault Refusal :=
  onDev s fun d => d.micro x 0x09 ev
/-- RDOBJ (R302). -/
def execMicroRdobj (x : CtxIx) (ev : MicroEv) (s : State) : Host.Outcome State Fault Refusal :=
  onDev s fun d => d.micro x 0x0A ev
/-- WROBJ (R302). -/
def execMicroWrobj (x : CtxIx) (ev : MicroEv) (s : State) : Host.Outcome State Fault Refusal :=
  onDev s fun d => d.micro x 0x0B ev
/-- ADDOBJ (R302). -/
def execMicroAddobj (x : CtxIx) (ev : MicroEv) (s : State) : Host.Outcome State Fault Refusal :=
  onDev s fun d => d.micro x 0x0C ev
/-- RDUNIT (R302). -/
def execMicroRdunit (x : CtxIx) (ev : MicroEv) (s : State) : Host.Outcome State Fault Refusal :=
  onDev s fun d => d.micro x 0x0D ev
/-- WRUNIT (R302). -/
def execMicroWrunit (x : CtxIx) (ev : MicroEv) (s : State) : Host.Outcome State Fault Refusal :=
  onDev s fun d => d.micro x 0x0E ev
/-- BR (R303). -/
def execMicroBr (x : CtxIx) (ev : MicroEv) (s : State) : Host.Outcome State Fault Refusal :=
  onDev s fun d => d.micro x 0x10 ev
/-- COMMIT (R307). -/
def execMicroCommit (x : CtxIx) (ev : MicroEv) (s : State) : Host.Outcome State Fault Refusal :=
  onDev s fun d => d.micro x 0x18 ev
/-- END (R302). -/
def execMicroEnd (x : CtxIx) (ev : MicroEv) (s : State) : Host.Outcome State Fault Refusal :=
  onDev s fun d => d.micro x 0x19 ev
/-- FAULT (R302). -/
def execMicroFault (x : CtxIx) (ev : MicroEv) (s : State) : Host.Outcome State Fault Refusal :=
  onDev s fun d => d.micro x 0x1A ev
/-- LOG (R302). -/
def execMicroLog (x : CtxIx) (ev : MicroEv) (s : State) : Host.Outcome State Fault Refusal :=
  onDev s fun d => d.micro x 0x1B ev

/-- The routines of a context that have entered and not ended: those that gave way, and the one that runs. -/
def Context.open' (c : Context) : List Request := (c.queue.filter fun q => q.entered) ++ c.running.toList

/-- The one that entered first, the first of a list where none is earlier. -/
def eldest : List Request → Option Request
  | [] => none
  | q :: l => match eldest l with
    | none => some q
    | some o => some (if o.since.getD 0 < q.since.getD 0 then o else q)

/-- 1 s has passed since a first entry without END: a microcode fault of the routine that entered first, whether it runs or has given
way (R308). A halted context's limit does not run (R427; log entry 56). -/
def Device.timeLimit (d : Device) (x : CtxIx) : Device :=
  let c := d.ryu.ctxs[x]
  if c.halted then d
  else match eldest c.open' with
    | none => d
    | some q => if c.running = some q then d.endWith x q 7 else d.endQueued x q 7

/-- ROUTINE_TIME_LIMIT (R308). -/
def execRoutineTimeLimit (x : CtxIx) (s : State) : Host.Outcome State Fault Refusal := onDev s fun d => d.timeLimit x

end Sys2Proof.Machine
end

