-- ==== Sys2Proof/Machine/Debug.lean ====
section
/-!
DEFINITION. Internal debug through the test access port: DBGCTL and DBGPEEK (R426, R427, R430).
-/
namespace Sys2Proof.Machine

/-- Internal debug reads are permitted now, the Keeper SRAM alone in Standby (R430). -/
def Device.peekPermitted (d : Device) (what : Peek) : Bool :=
  d.internal && match d.modes.mode, what with
    | .dormant, _ => false
    | .standby, .keeperSram _ => true
    | .standby, _ => false
    | _, _ => true

/-- Internal debug control is permitted now (R430). -/
def Device.controlPermitted (d : Device) : Bool := d.internal && d.boundaryMode

/-- The scope of a context is in Configure, Ready or Fold (R427): by region mode, or by DeviceMode. -/
def Device.haltScope (d : Device) (x : CtxIx) : Bool :=
  match ctxRegion x with
  | some r => match d.regions[r].mode with | .configure | .ready | .fold => true | _ => false
  | none => match d.modes.mode with | .configure | .ready | .fold => true | _ => false

/-- A halted context executes one word, as soon as the engine can issue it (log entry 55). -/
def Device.stepWord (d : Device) (x : CtxIx) : Device :=
  let c := d.ryu.ctxs[x]
  match c.running with
  | some q =>
    if c.halted ∧ d.modes.clocks then
      d.issueWord x (max c.readyAt (max d.fclk d.ryu.nextIssue)) (((d.controlWord c.pc).map mwOp).getD 0) MicroEv.clean q
    else d
  | none => d

/-- What DBGCTL does once it is permitted (R426, R427). What the port captures no rule gives, a register read apart (log
entry 70). -/
def Device.debugControl (d : Device) (x : CtxIx) (op : DbgOp) : Device :=
  let d := d.loadTap .dbgctl
  match op with
  | .halt => if d.haltScope x then d.onCtx x fun c => { c with halted := true } else d
  | .step => d.stepWord x
  | .readReg i => { d with sec := { d.sec with tapData := (d.ryu.ctxs[x].reg i.val).toNat } }
  | .resume => d.onCtx x fun c => { c with halted := false }

/-- What DBGPEEK reads (R426); what is not there reads as a free value (log entry 70). -/
def Device.peekValue (d : Device) (what : Peek) : Nat :=
  let free := Config.unstated d.free
  match what with
  | .controlStore a => ((d.controlWord a).map fun w => w.toNat).getD free
  | .comb r e => if e < d.regions[r].anchored then (d.regions[r].combAt e).data.toNat else free
  | .failFifo r i => (d.regions[r].tally.fifo[i]?.map fun q => q.data.toNat).getD free
  | .keeperSram k => ((getKey k d.log.slots).map fun x => x.word.toNat).getD free

/-- DBGPEEK, permitted (R427): read-only (log entry 70). -/
def Device.debugPeek (d : Device) (what : Peek) : Device :=
  ({ d with sec := { d.sec with tap := .dbgpeek, tapData := d.peekValue what } }).nextFree

/-- DBGCTL (R427). -/
def execDbgctl (x : CtxIx) (op : DbgOp) (s : State) : Host.Outcome State Fault Refusal :=
  onDev s fun d =>
    if !d.tapOn then d else if d.controlPermitted then d.debugControl x op else d.refuseScan .dbgctl

/-- DBGPEEK (R427). -/
def execDbgpeek (what : Peek) (s : State) : Host.Outcome State Fault Refusal :=
  onDev s fun d =>
    if !d.tapOn then d else if d.peekPermitted what then d.debugPeek what else d.refuseScan .dbgpeek

end Sys2Proof.Machine
end

