-- ==== Sys2Proof/Machine/Thenko.lean ====
section
/-!
DEFINITION. Thenko frames as bytes: which frames a port accepts, what a frame's bytes say, and which message its Type names; and the
bytes of a frame that the part sends (R317 to R322, R327, R331, R423).
-/
namespace Sys2Proof.Machine

/-! ### The bytes of a received frame (R320, R321) -/

/-- A header field, most significant byte first (R320). -/
def Frame.field (f : Frame) (off n : Nat) : Nat := numOf (((f.bytes.drop off).take n).reverse.map BitVec.toNat)
/-- Version (R320). -/
def Frame.version (f : Frame) : Nat := Frame.field f 0 1
/-- Type (R320, R322). -/
def Frame.type (f : Frame) : Nat := Frame.field f 1 1
/-- Flags (R320). -/
def Frame.flags (f : Frame) : Nat := Frame.field f 5 1
/-- PayloadLength (R320). -/
def Frame.length (f : Frame) : Nat := Frame.field f 14 2
/-- The payload (R320). -/
def Frame.payload (f : Frame) : List Nat := ((f.bytes.drop 16).take (Frame.length f)).map BitVec.toNat
/-- A payload field, least significant byte first (R321). -/
def Frame.arg (f : Frame) (off n : Nat) : Nat := numOf (((Frame.payload f).drop off).take n)

/-- The frame holds the 16-byte header and the PayloadLength it states (R319, R320). -/
def Frame.whole (f : Frame) : Bool := decide (16 + Frame.length f ≤ f.bytes.length ∧ 16 ≤ f.bytes.length ∧ Frame.length f ≤ 9152)

/-- Attach and Sync alone may be broadcast (R319, R320). -/
def Frame.mayBroadcast (f : Frame) : Bool := decide (f.etherType = 0x88B5) && (decide (Frame.type f = 1) || decide (Frame.type f = 0xB))

/-- A port accepts a frame (R318, R319): its FCS, its address, at most one 802.1Q tag and its EtherType are right, and a Thenko frame is
whole and of a Version and a Type that are not discarded (R320, R322). -/
def Frame.accepted (f : Frame) : Bool :=
  f.fcsOk && decide (f.tags.length ≤ 1) &&
    (match f.dst with | .own | .ptp => true | .broadcast => Frame.mayBroadcast f | .other => false) &&
    (decide (f.etherType = 0x88F7) ||
      (decide (f.etherType = 0x88B5) && Frame.whole f && decide (Frame.version f = 1) && decide (1 ≤ Frame.type f ∧ Frame.type f < 0xF)))

/-- The first 16 bytes of HMAC-SHA-256(Ks, header and payload) (R423). -/
def trailerOf (key : Nat) (bytes : List Nat) : List Nat := (hmac (keyBytes key) bytes).take 16

/-- The trailer of a frame is right for its session's key (R423). -/
def Device.trailerRight (d : Device) (f : Frame) : Bool :=
  match sessIx (Frame.field f 6 2) with
  | some i =>
    let n := 16 + Frame.length f
    decide (((f.bytes.drop n).take 16).map BitVec.toNat = trailerOf d.link.sessions[i].key ((f.bytes.take n).map BitVec.toNat))
  | none => false

/-- What the header of a frame says (R320). -/
def Device.hdrOf (d : Device) (f : Frame) : Hdr where
  port := f.port
  session := Frame.field f 6 2
  seq := Frame.field f 8 4
  node := Frame.field f 2 3 % 2 ^ 18
  credits := Frame.field f 12 2
  secure := bitAt (Frame.flags f) 4
  trailerOk := d.trailerRight f
  dst := f.dst
  tag := f.tags.head?
  fcsOk := f.fcsOk
  whole := Frame.whole f

/-! ### The message that a frame is (R322, R327, R331, R339, R421) -/

/-- A Thenko frame is the message that its Type names; a Notify of the host is none unless it is a response (R320, R322, R331; log
entry 8). -/
def Device.message (d : Device) (f : Frame) : Device :=
  let h := d.hdrOf f
  let arg := Frame.arg f
  let data := (Frame.payload f).drop 8
  match Frame.type f with
  | 0x01 => d.attach h (arg 0 8 % 2 ^ 48)
  | 0x02 => d.detach h
  | 0x03 => d.readMsg h (arg 0 2) (arg 2 1)
  | 0x04 => d.writeMsg h (arg 0 2) (arg 2 1) { len := arg 4 2, val := numOf (data.take (arg 4 2)) }
  | 0x05 => d.readBlockMsg h (arg 0 2) (arg 2 1) (arg 8 8) (arg 16 8)
  | 0x06 => d.writeBlockMsg h (arg 0 2) (arg 2 1) (arg 8 8) (arg 16 8)
  | 0x07 => d.blockDataMsg h (arg 0 8) (data.map fun b => BitVec.ofNat 8 b)
  | 0x08 => if bitAt (Frame.flags f) 0 then d.notifyAck h else d
  | 0x09 => d.claim h (arg 0 1) (arg 1 1)
  | 0x0A => d.yieldDeal h (arg 0 2)
  | 0x0B => d.sync h (bitAt (Frame.flags f) 6) (arg 0 8) (arg 8 1) (arg 9 1) (arg 12 8)
  | 0x0C => d.heartbeat h
  | 0x0D => d.challenge h (arg 0 16)
  | 0x0E => d.answer h (arg 0 32)
  | _ => d

/-- A frame arrives that no other row stands for: it is discarded and counted where a check fails (R319), else it is the message that it
is, a PTP frame one that its own row carries (log entry 8). -/
def Device.frameArrives (d : Device) (f : Frame) : Device :=
  if !d.linkUp f.port then d
  else if !Frame.accepted f then d.discard f.port
  else if f.etherType = 0x88B5 then d.message f
  else d

/-- FRAME_DISCARDED (R319). -/
def execFrameDiscarded (f : Frame) (s : State) : Host.Outcome State Fault Refusal := onDev s fun d => d.frameArrives f

/-! ### The bytes of a sent frame (R320 to R322, R327, R331, R361, R423) -/

/-- A number as so many bytes, most significant first (R320). -/
def bigBytes (n v : Nat) : List Nat := (bytesOf n v).reverse

/-- Code and Detail of an error response (R321, R361). -/
def errorBytes (r : Refuse) (idx sub : Nat) : List Nat :=
  bytesOf 4 r.code ++ bytesOf 4 (r.reason * 2 ^ 24 + idx % 2 ^ 16 * 2 ^ 8 + sub % 2 ^ 8)

/-- The payload of a successful response (R322, R421). -/
def okBytes (type : Nat) (p : List Nat) : List Nat :=
  let at' := fun i => p.getD i 0
  match type with
  | 0x01 => bytesOf 2 (at' 0) ++ bytesOf 4 (at' 1)
  | 0x03 => bytesOf 2 (at' 0) ++ bytesOf 2 0 ++ p.tail
  | 0x06 => bytesOf 8 (at' 0)
  | 0x09 => bytesOf 2 (at' 0) ++ bytesOf 2 0 ++ bytesOf 4 (at' 1)
  | 0x0A => bytesOf 4 (at' 0)
  | 0x0C => bytesOf 4 (at' 0)
  | 0x0D => bytesOf 16 (at' 0)
  | 0x0E => bytesOf 32 (at' 0)
  | _ => []

/-- The payload of a frame of the part's own: BlockData (R322), or a Notify (R331). -/
def ownBytes (type : Nat) (p : List Nat) : List Nat :=
  let at' := fun i => p.getD i 0
  if type = 8 then
    bytesOf 1 (at' 0) ++ bytesOf 1 (at' 1) ++ bytesOf 2 (at' 2) ++ bytesOf 4 (at' 3) ++ bytesOf 8 (at' 4) ++ bytesOf 8 (at' 5) ++ bytesOf 8 (at' 6)
  else bytesOf 8 (at' 0) ++ p.tail

/-- The payload of a frame that the part sends (R321, R322; log entry 59). -/
def Sent.payload (f : Sent) : List Nat :=
  match f.reply with
  | .ok p => okBytes f.type p
  | .interim p => okBytes f.type p
  | .own p => ownBytes f.type p
  | .error r idx sub => errorBytes r idx sub
  | .dealerExists r s e => errorBytes r 0 0 ++ okBytes 0x09 [s, e]

/-- The credits that a frame grants: an interim response to WriteBlock does (R329). -/
def Sent.credits (f : Sent) : Nat :=
  match f.reply with
  | .interim p => p.getD 1 0
  | _ => 0

/-- Flags (R320). -/
def Sent.flags (f : Sent) : Nat :=
  let kind := match f.reply with
    | .ok _ => 1
    | .interim _ => 2 ^ 5 + 1
    | .own _ => 0
    | .error _ _ _ => 2 + 1
    | .dealerExists _ _ _ => 2 + 1
  kind + (if f.secure then 2 ^ 4 else 0)

/-- The Thenko header (R320). -/
def Sent.header (f : Sent) : List Nat :=
  [1, f.type % 256] ++ bigBytes 3 f.node ++ [f.flags] ++ bigBytes 2 f.session ++ bigBytes 4 f.seq ++ bigBytes 2 f.credits ++
    bigBytes 2 f.payload.length

/-- The bytes of a sent frame between its EtherType and its FCS: header, payload, the trailer of a secure one under its session's key,
and zeros up to the Ethernet minimum (R320, R321, R423). -/
def Sent.bytes (f : Sent) (key : Nat) : List Nat :=
  let body := f.header ++ f.payload
  let all := if f.secure then body ++ trailerOf key body else body
  all ++ List.replicate ((if f.tag.isSome then 42 else 46) - all.length) 0

end Sys2Proof.Machine
end

