-- ==== Sys2Proof/Machine/Dispatch.lean ====
section
/-!
DEFINITION. What each command does: one meaning for each row of spec/opcode_table.json.
-/
namespace Sys2Proof.Machine

/-- The effect of a command on the device; the queue of `s` holds the commands behind it (log entry 16). -/
def exec (i : Instr) (s : State) : Host.Outcome State Fault Refusal :=
  match i with
  | .porstNRelease fact w => Sys2Proof.Machine.execPorstNRelease fact w s
  | .porstNFall => Sys2Proof.Machine.execPorstNFall s
  | .warmReset w => Sys2Proof.Machine.execWarmReset w s
  | .vkeepBelowReset => Sys2Proof.Machine.execVkeepBelowReset s
  | .clrNFall => Sys2Proof.Machine.execClrNFall s
  | .foldinNFall => Sys2Proof.Machine.execFoldinNFall s
  | .mainPllLoss => Sys2Proof.Machine.execMainPllLoss s
  | .ddrPllLoss n => Sys2Proof.Machine.execDdrPllLoss n s
  | .serdesPllLoss p => Sys2Proof.Machine.execSerdesPllLoss p s
  | .railBelowWarning rail => Sys2Proof.Machine.execRailBelowWarning rail s
  | .railBelowReset rail => Sys2Proof.Machine.execRailBelowReset rail s
  | .shedStageAdvance => Sys2Proof.Machine.execShedStageAdvance s
  | .shedRecovery w => Sys2Proof.Machine.execShedRecovery w s
  | .temperatureUpdate core dieA dieB units phy => Sys2Proof.Machine.execTemperatureUpdate core dieA dieB units phy s
  | .powerReportUpdate core dieA dieB total energy volts amps => Sys2Proof.Machine.execPowerReportUpdate core dieA dieB total energy volts amps s
  | .downFrame r data chk => Sys2Proof.Machine.execDownFrame r data chk s
  | .upFrame r data chk => Sys2Proof.Machine.execUpFrame r data chk s
  | .couplingWrite h d => Sys2Proof.Machine.execCouplingWrite h d s
  | .timingSetPeriodWrite h r k d => Sys2Proof.Machine.execTimingSetPeriodWrite h r k d s
  | .cellTimingWrite h r k p d => Sys2Proof.Machine.execCellTimingWrite h r k p d s
  | .entryIndexWrite h r d => Sys2Proof.Machine.execEntryIndexWrite h r d s
  | .anchoredEntriesWrite h r d => Sys2Proof.Machine.execAnchoredEntriesWrite h r d s
  | .stallPolicyWrite h r d => Sys2Proof.Machine.execStallPolicyWrite h r d s
  | .runClassWrite h r w => Sys2Proof.Machine.execRunClassWrite h r w s
  | .runAdmit h r w => Sys2Proof.Machine.execRunAdmit h r w s
  | .runStart h r w => Sys2Proof.Machine.execRunStart h r w s
  | .runStop h r w => Sys2Proof.Machine.execRunStop h r w s
  | .runAbort h r w => Sys2Proof.Machine.execRunAbort h r w s
  | .admissionComplete a => Sys2Proof.Machine.execAdmissionComplete a s
  | .prefillComplete r => Sys2Proof.Machine.execPrefillComplete r s
  | .scheduledStartDue => Sys2Proof.Machine.execScheduledStartDue s
  | .vectorIssue r own other => Sys2Proof.Machine.execVectorIssue r own other s
  | .holdVectorIssue r => Sys2Proof.Machine.execHoldVectorIssue r s
  | .seqHalt r => Sys2Proof.Machine.execSeqHalt r s
  | .seqPlay r => Sys2Proof.Machine.execSeqPlay r s
  | .seqRepeat r => Sys2Proof.Machine.execSeqRepeat r s
  | .seqLoop r => Sys2Proof.Machine.execSeqLoop r s
  | .seqEndloop r => Sys2Proof.Machine.execSeqEndloop r s
  | .seqMatch r => Sys2Proof.Machine.execSeqMatch r s
  | .seqJump r => Sys2Proof.Machine.execSeqJump r s
  | .seqBranch r => Sys2Proof.Machine.execSeqBranch r s
  | .seqCall r => Sys2Proof.Machine.execSeqCall r s
  | .seqReturn r => Sys2Proof.Machine.execSeqReturn r s
  | .seqWait r => Sys2Proof.Machine.execSeqWait r s
  | .seqSignal r => Sys2Proof.Machine.execSeqSignal r s
  | .ringEntryArrival r => Sys2Proof.Machine.execRingEntryArrival r s
  | .failAccumulatorSet r => Sys2Proof.Machine.execFailAccumulatorSet r s
  | .drainComplete r => Sys2Proof.Machine.execDrainComplete r s
  | .driveEdge c => Sys2Proof.Machine.execDriveEdge c s
  | .frcEdge c => Sys2Proof.Machine.execFrcEdge c s
  | .strobeEvent c => Sys2Proof.Machine.execStrobeEvent c s
  | .comparatorCrossing c uv coarse tap => Sys2Proof.Machine.execComparatorCrossing c uv coarse tap s
  | .levelsWrite h c sub d => Sys2Proof.Machine.execLevelsWrite h c sub d s
  | .levelsSettled c => Sys2Proof.Machine.execLevelsSettled c s
  | .formatTermWrite h c d => Sys2Proof.Machine.execFormatTermWrite h c d s
  | .strobeCountersClear h c d => Sys2Proof.Machine.execStrobeCountersClear h c d s
  | .pathRequestWrite h c d => Sys2Proof.Machine.execPathRequestWrite h c d s
  | .switchSensed c => Sys2Proof.Machine.execSwitchSensed c s
  | .staticDriveWrite h c d => Sys2Proof.Machine.execStaticDriveWrite h c d s
  | .tallyVectorProcess r errs => Sys2Proof.Machine.execTallyVectorProcess r errs s
  | .tallyFreeze h r => Sys2Proof.Machine.execTallyFreeze h r s
  | .tallyUnfreeze h r => Sys2Proof.Machine.execTallyUnfreeze h r s
  | .tallyIdleTimeout d => Sys2Proof.Machine.execTallyIdleTimeout d s
  | .tallyWriteComplete r w => Sys2Proof.Machine.execTallyWriteComplete r w s
  | .tmuModeWrite h c d => Sys2Proof.Machine.execTmuModeWrite h c d s
  | .tmuArm h c => Sys2Proof.Machine.execTmuArm h c s
  | .tmuDisarm h c => Sys2Proof.Machine.execTmuDisarm h c s
  | .tmuClearResults h c => Sys2Proof.Machine.execTmuClearResults h c s
  | .tmuWindowClose c => Sys2Proof.Machine.execTmuWindowClose c s
  | .tmuGateClose c => Sys2Proof.Machine.execTmuGateClose c s
  | .calibrate h u => Sys2Proof.Machine.execCalibrate h u s
  | .cancel h u => Sys2Proof.Machine.execCancel h u s
  | .requestAll h r => Sys2Proof.Machine.execRequestAll h r s
  | .cancelPending h r => Sys2Proof.Machine.execCancelPending h r s
  | .calRequestStart b => Sys2Proof.Machine.execCalRequestStart b s
  | .preloadComplete b => Sys2Proof.Machine.execPreloadComplete b s
  | .swapIn b => Sys2Proof.Machine.execSwapIn b s
  | .swapBack b => Sys2Proof.Machine.execSwapBack b s
  | .quietTimeout b => Sys2Proof.Machine.execQuietTimeout b s
  | .deferRetryExpiry u => Sys2Proof.Machine.execDeferRetryExpiry u s
  | .calPassComplete u m => Sys2Proof.Machine.execCalPassComplete u m s
  | .gradualStep r => Sys2Proof.Machine.execGradualStep r s
  | .backgroundVisit b refv drive compare trims hits => Sys2Proof.Machine.execBackgroundVisit b refv drive compare trims hits s
  | .refFaultClear b => Sys2Proof.Machine.execRefFaultClear b s
  | .remapPositionWrite h b d => Sys2Proof.Machine.execRemapPositionWrite h b d s
  | .pmuConfigWrite h c sub d => Sys2Proof.Machine.execPmuConfigWrite h c sub d s
  | .measure h c => Sys2Proof.Machine.execMeasure h c s
  | .abortMeasure h c => Sys2Proof.Machine.execAbortMeasure h c s
  | .restore h c => Sys2Proof.Machine.execRestore h c s
  | .clearFlags h c => Sys2Proof.Machine.execClearFlags h c s
  | .settleExpiry c => Sys2Proof.Machine.execSettleExpiry c s
  | .adcConversionSlot b code => Sys2Proof.Machine.execAdcConversionSlot b code s
  | .pmuShort c => Sys2Proof.Machine.execPmuShort c s
  | .clampActiveOnset c => Sys2Proof.Machine.execClampActiveOnset c s
  | .kelvinOpen c => Sys2Proof.Machine.execKelvinOpen c s
  | .clearValuesWrite h c d => Sys2Proof.Machine.execClearValuesWrite h c d s
  | .ddsStart h b => Sys2Proof.Machine.execDdsStart h b s
  | .ddsStop h b => Sys2Proof.Machine.execDdsStop h b s
  | .ddsFreeze h b => Sys2Proof.Machine.execDdsFreeze h b s
  | .ddsResume h b => Sys2Proof.Machine.execDdsResume h b s
  | .ddsUpdate b => Sys2Proof.Machine.execDdsUpdate b s
  | .ddsRouteEnableWrite h c d => Sys2Proof.Machine.execDdsRouteEnableWrite h c d s
  | .amplitudeWrite h c d => Sys2Proof.Machine.execAmplitudeWrite h c d s
  | .sentinelTick r => Sys2Proof.Machine.execSentinelTick r s
  | .sentinelSample m uv => Sys2Proof.Machine.execSentinelSample m uv s
  | .blankTimeExpiry m => Sys2Proof.Machine.execBlankTimeExpiry m s
  | .sentinelCrossing m uv => Sys2Proof.Machine.execSentinelCrossing m uv s
  | .sentinelTrip m => Sys2Proof.Machine.execSentinelTrip m s
  | .releaseTimeExpiry m => Sys2Proof.Machine.execReleaseTimeExpiry m s
  | .releaseTrip h m => Sys2Proof.Machine.execReleaseTrip h m s
  | .sentinelClearCounts h m => Sys2Proof.Machine.execSentinelClearCounts h m s
  | .sentinelReadback b code => Sys2Proof.Machine.execSentinelReadback b code s
  | .sentinelConfigWrite h m sub d => Sys2Proof.Machine.execSentinelConfigWrite h m sub d s
  | .dramReadComplete n e1 e2 => Sys2Proof.Machine.execDramReadComplete n e1 e2 s
  | .dramWriteComplete n e1 e2 => Sys2Proof.Machine.execDramWriteComplete n e1 e2 s
  | .refreshInterval n place moments => Sys2Proof.Machine.execRefreshInterval n place moments s
  | .pageIdleTimeout n sc bank => Sys2Proof.Machine.execPageIdleTimeout n sc bank s
  | .writeQueueAge n => Sys2Proof.Machine.execWriteQueueAge n s
  | .tokenRefill r => Sys2Proof.Machine.execTokenRefill r s
  | .retrain h n => Sys2Proof.Machine.execRetrain h n s
  | .retrainComplete n t => Sys2Proof.Machine.execRetrainComplete n t s
  | .serviceExitIdle r => Sys2Proof.Machine.execServiceExitIdle r s
  | .loadFenceRequest h d => Sys2Proof.Machine.execLoadFenceRequest h d s
  | .fenceComplete => Sys2Proof.Machine.execFenceComplete s
  | .shadowSelectWrite h r d => Sys2Proof.Machine.execShadowSelectWrite h r d s
  | .frequencyChangeComplete r t0 t1 back0 back1 => Sys2Proof.Machine.execFrequencyChangeComplete r t0 t1 back0 back1 s
  | .dramConfigWrite h r sub d => Sys2Proof.Machine.execDramConfigWrite h r sub d s
  | .dramShadowWrite h r sub d => Sys2Proof.Machine.execDramShadowWrite h r sub d s
  | .portRegulatorWrite h r sub d => Sys2Proof.Machine.execPortRegulatorWrite h r sub d s
  | .offerArrival consumer => Sys2Proof.Machine.execOfferArrival consumer s
  | .enable h k => Sys2Proof.Machine.execEnable h k s
  | .disable h k => Sys2Proof.Machine.execDisable h k s
  | .fire h k => Sys2Proof.Machine.execFire h k s
  | .reconfirm h k => Sys2Proof.Machine.execReconfirm h k s
  | .waggleClearCounts h k => Sys2Proof.Machine.execWaggleClearCounts h k s
  | .reclaim h k => Sys2Proof.Machine.execReclaim h k s
  | .clearConsumers h d => Sys2Proof.Machine.execClearConsumers h d s
  | .evioEdge n level => Sys2Proof.Machine.execEvioEdge n level s
  | .evioPulseEnd n => Sys2Proof.Machine.execEvioPulseEnd n s
  | .routineStart x => Sys2Proof.Machine.execRoutineStart x s
  | .microNop x ev => Sys2Proof.Machine.execMicroNop x ev s
  | .microMov x ev => Sys2Proof.Machine.execMicroMov x ev s
  | .microAdd x ev => Sys2Proof.Machine.execMicroAdd x ev s
  | .microSub x ev => Sys2Proof.Machine.execMicroSub x ev s
  | .microAnd x ev => Sys2Proof.Machine.execMicroAnd x ev s
  | .microOr x ev => Sys2Proof.Machine.execMicroOr x ev s
  | .microXor x ev => Sys2Proof.Machine.execMicroXor x ev s
  | .microShl x ev => Sys2Proof.Machine.execMicroShl x ev s
  | .microShr x ev => Sys2Proof.Machine.execMicroShr x ev s
  | .microCmp x ev => Sys2Proof.Machine.execMicroCmp x ev s
  | .microRdobj x ev => Sys2Proof.Machine.execMicroRdobj x ev s
  | .microWrobj x ev => Sys2Proof.Machine.execMicroWrobj x ev s
  | .microAddobj x ev => Sys2Proof.Machine.execMicroAddobj x ev s
  | .microRdunit x ev => Sys2Proof.Machine.execMicroRdunit x ev s
  | .microWrunit x ev => Sys2Proof.Machine.execMicroWrunit x ev s
  | .microBr x ev => Sys2Proof.Machine.execMicroBr x ev s
  | .microCommit x ev => Sys2Proof.Machine.execMicroCommit x ev s
  | .microEnd x ev => Sys2Proof.Machine.execMicroEnd x ev s
  | .microFault x ev => Sys2Proof.Machine.execMicroFault x ev s
  | .microLog x ev => Sys2Proof.Machine.execMicroLog x ev s
  | .routineTimeLimit x => Sys2Proof.Machine.execRoutineTimeLimit x s
  | .armBank0 h => Sys2Proof.Machine.execArmBank0 h s
  | .armBank1 h => Sys2Proof.Machine.execArmBank1 h s
  | .patchDisarm h => Sys2Proof.Machine.execPatchDisarm h s
  | .attach h hostId upper => Sys2Proof.Machine.execAttach h hostId upper s
  | .detach h => Sys2Proof.Machine.execDetach h s
  | .write h idx sub d => Sys2Proof.Machine.execWrite h idx sub d s
  | .readblock h idx sub off len => Sys2Proof.Machine.execReadblock h idx sub off len s
  | .blockDataSend slot => Sys2Proof.Machine.execBlockDataSend slot s
  | .writeblock h idx sub off len => Sys2Proof.Machine.execWriteblock h idx sub off len s
  | .blockData h off bytes => Sys2Proof.Machine.execBlockData h off bytes s
  | .blockTransferTimeout slot => Sys2Proof.Machine.execBlockTransferTimeout slot s
  | .notifyAck h => Sys2Proof.Machine.execNotifyAck h s
  | .notifyRetransmit => Sys2Proof.Machine.execNotifyRetransmit s
  | .claim h prio cls => Sys2Proof.Machine.execClaim h prio cls s
  | .electionWindowClose => Sys2Proof.Machine.execElectionWindowClose s
  | .yield h successor => Sys2Proof.Machine.execYield h successor s
  | .heartbeat h => Sys2Proof.Machine.execHeartbeat h s
  | .heartbeatLapse => Sys2Proof.Machine.execHeartbeatLapse s
  | .dealerVacatedReady => Sys2Proof.Machine.execDealerVacatedReady s
  | .sessionTimeout slot => Sys2Proof.Machine.execSessionTimeout slot s
  | .sync h broadcast time regions source hostId => Sys2Proof.Machine.execSync h broadcast time regions source hostId s
  | .scheduledStartWrite h sub d => Sys2Proof.Machine.execScheduledStartWrite h sub d s
  | .challenge h nonce => Sys2Proof.Machine.execChallenge h nonce s
  | .answer h mac => Sys2Proof.Machine.execAnswer h mac s
  | .lockoutExpiry => Sys2Proof.Machine.execLockoutExpiry s
  | .ptpMessage p domain gm offset delay calibrated => Sys2Proof.Machine.execPtpMessage p domain gm offset delay calibrated s
  | .frameDiscarded f => Sys2Proof.Machine.execFrameDiscarded f s
  | .linkDown p => Sys2Proof.Machine.execLinkDown p s
  | .linkUp p o f => Sys2Proof.Machine.execLinkUp p o f s
  | .wakeFrame p wake node w => Sys2Proof.Machine.execWakeFrame p wake node w s
  | .nodeAddressWrite h d => Sys2Proof.Machine.execNodeAddressWrite h d s
  | .sync0Edge => Sys2Proof.Machine.execSync0Edge s
  | .sync1Edge => Sys2Proof.Machine.execSync1Edge s
  | .syncPulse h => Sys2Proof.Machine.execSyncPulse h s
  | .syncStop h => Sys2Proof.Machine.execSyncStop h s
  | .modeRequestConfigure h => Sys2Proof.Machine.execModeRequestConfigure h s
  | .stalenessCheckDone r corrected uncorrectable t0 t1 suspects => Sys2Proof.Machine.execStalenessCheckDone r corrected uncorrectable t0 t1 suspects s
  | .modeRequestReady h => Sys2Proof.Machine.execModeRequestReady h s
  | .modeRequestCalibrate h => Sys2Proof.Machine.execModeRequestCalibrate h s
  | .modeRequestOff h => Sys2Proof.Machine.execModeRequestOff h s
  | .modeRequestStandby h => Sys2Proof.Machine.execModeRequestStandby h s
  | .modeRequestDormant h => Sys2Proof.Machine.execModeRequestDormant h s
  | .resume h => Sys2Proof.Machine.execResume h s
  | .leaveFold h => Sys2Proof.Machine.execLeaveFold h s
  | .modeRequestDone => Sys2Proof.Machine.execModeRequestDone s
  | .clearPeak h d => Sys2Proof.Machine.execClearPeak h d s
  | .collectorClear h col d => Sys2Proof.Machine.execCollectorClear h col d s
  | .collectorParityError col => Sys2Proof.Machine.execCollectorParityError col s
  | .clearBalanceVoid h => Sys2Proof.Machine.execClearBalanceVoid h s
  | .clearChipParity h => Sys2Proof.Machine.execClearChipParity h s
  | .inject h => Sys2Proof.Machine.execInject h s
  | .injectParity h => Sys2Proof.Machine.execInjectParity h s
  | .injectionHoldExpiry => Sys2Proof.Machine.execInjectionHoldExpiry s
  | .logEntryWrite => Sys2Proof.Machine.execLogEntryWrite s
  | .logClear h => Sys2Proof.Machine.execLogClear h s
  | .keyProvision h d => Sys2Proof.Machine.execKeyProvision h d s
  | .seal h => Sys2Proof.Machine.execSeal h s
  | .retire h => Sys2Proof.Machine.execRetire h s
  | .discardKey h => Sys2Proof.Machine.execDiscardKey h s
  | .fuseProgrammingComplete agree => Sys2Proof.Machine.execFuseProgrammingComplete agree s
  | .unlockToken h d => Sys2Proof.Machine.execUnlockToken h d s
  | .lock h => Sys2Proof.Machine.execLock h s
  | .unlockExpiry => Sys2Proof.Machine.execUnlockExpiry s
  | .tapReset => Sys2Proof.Machine.execTapReset s
  | .tapIdcode => Sys2Proof.Machine.execTapIdcode s
  | .tapSamplePreload => Sys2Proof.Machine.execTapSamplePreload s
  | .tapExtest => Sys2Proof.Machine.execTapExtest s
  | .tapClamp => Sys2Proof.Machine.execTapClamp s
  | .tapHighz => Sys2Proof.Machine.execTapHighz s
  | .dbgctl x op => Sys2Proof.Machine.execDbgctl x op s
  | .dbgpeek what => Sys2Proof.Machine.execDbgpeek what s
  | .tapBypass => Sys2Proof.Machine.execTapBypass s
  | .vkeepApplied => Sys2Proof.Machine.execVkeepApplied s
  | .railAboveWarning rail => Sys2Proof.Machine.execRailAboveWarning rail s
  | .clrNRise => Sys2Proof.Machine.execClrNRise s
  | .foldinNRise => Sys2Proof.Machine.execFoldinNRise s
  | .mainPllRelock => Sys2Proof.Machine.execMainPllRelock s
  | .ddrPllRelock n => Sys2Proof.Machine.execDdrPllRelock n s
  | .serdesPllRelock p => Sys2Proof.Machine.execSerdesPllRelock p s
  | .pmuShortRelease c => Sys2Proof.Machine.execPmuShortRelease c s
  | .kelvinDifferenceCleared c => Sys2Proof.Machine.execKelvinDifferenceCleared c s
  | .clampActiveEnd c => Sys2Proof.Machine.execClampActiveEnd c s
  | .ptpMasterLost => Sys2Proof.Machine.execPtpMasterLost s

end Sys2Proof.Machine
end

