-- ==== Sys2Proof/Safety.lean ====
section
/-!
DEFINITION. The terms that claims use: a command that completes, a frame that the part acts on, and a request that the Dealer
may make.
-/
namespace Sys2Proof.Machine

/-- The step answers a next state. -/
def Completes (o : Host.Outcome State Fault Refusal) : Prop := ∃ t, o = .next t

/-- The command answers the next state whose device is `d`; what waits behind it stays. -/
def Gives (i : Instr) (s : State) (d : Device) : Prop := exec i s = .next { s with dev := d }

/-- The command answers a next state whose device has the property; what waits behind it stays. -/
def Reaches (i : Instr) (s : State) (p : Device → Prop) : Prop := ∃ d, Gives i s d ∧ p d

/-- A frame comes over a port with a link, passes its checks, and is the one its session expects next (R319, R324, R325). -/
abbrev Heard (d : Device) (h : Hdr) (i : Fin 16) : Prop :=
  d.linkUp h.port = true ∧ d.frameOk h = some i ∧ h.seq = d.link.sessions[i].expected h.port

/-- The device once that frame has come and before its request is looked at (R323, R325, R329). -/
def Device.heard (d : Device) (i : Fin 16) (h : Hdr) : Device :=
  ((d.frameSeen i h.port).onSession i fun x => x.advance h.port).grantCredits i h

/-- A request of a Type, a Write where none is named, is answered with a payload (R322, R325). -/
def Device.answers (d : Device) (i : Fin 16) (h : Hdr) (payload : List Nat) (type : Nat := 4) : Device :=
  d.respond i (retOf h type) (.ok payload)

/-- A request of a Type, a Write where none is named, is answered with an error (R322, R360). -/
def Device.refuses (d : Device) (i : Fin 16) (h : Hdr) (c r idx sub : Nat) (type : Nat := 4) : Device :=
  d.respond i (retOf h type) (.error { code := c, reason := r } idx sub)

/-- The frame is the Dealer's, and the part may answer its writes: it is not Blank, and each region's copy of the Dealer
record agrees with the chip's (R333, R337, R416). -/
abbrev MayWrite (d : Device) (h : Hdr) (i : Fin 16) : Prop :=
  Heard d h i ∧ d.isDealer i = true ∧ d.sec.life ≠ .blank ∧ ∀ r, d.copyState r = .same

/-- The command is a request that the part accepts with no payload, and `f` is all it does beside. -/
def Accepts (c : Instr) (s : State) (h : Hdr) (i : Fin 16) (f : Device → Device) : Prop :=
  Gives c s ((f (s.dev.heard i h)).answers i h [])

/-- The sequencer of a region's run decides its next instruction, which is `w` with opcode `op` (R73, R83, R90). -/
abbrev Decides (d : Device) (r : RegionIx) (op : SeqOp) (w : BitVec 128) : Prop :=
  d.follows r = false ∧ d.regions[r].seq.busy = false ∧ d.regions[r].run.deciding = true ∧ d.instr r = w ∧ seqOp w = some op

/-- It is a context's turn in FCLK cycle `cy`, and its next word is `w` with opcode `op`, for the routine of request `q`; nothing keeps it
from executing (R298, R301, R306, R307). -/
abbrev Issues (d : Device) (x : CtxIx) (cy op : Nat) (q : Request) (w : BitVec 128) : Prop :=
  d.modes.clocks = true ∧ d.ryu.ctxs[x].halted = false ∧ d.ryu.ctxs[x].running = some q ∧ d.preempted x = false ∧
    d.nextTurn = some (x, cy) ∧ d.controlWord d.ryu.ctxs[x].pc = some w ∧ mwReserved w = false ∧ mwOp w = op ∧
    (d.ryu.ctxs[x].state = .committed → d.ryu.ctxs[x].sinceCommit < 256)

/-- The device once the engine has taken the slot for a word: the FCLK cycle of its issue has come, and its dwell is known (R298). -/
def Device.slotFor (d : Device) (x : CtxIx) (cy : Nat) (w : BitVec 128) : Device := d.takeSlot x cy (mwDwell w)

/-- The device as an issued word finds it: LastPc names the word, and the model's own counter of free values has moved on. -/
def Device.issuing (d : Device) (x : CtxIx) (cy : Nat) (w : BitVec 128) : Device :=
  (d.slotFor x cy w).nextFree.onCtx x fun c => { c with lastPc := c.pc }

/-- A context after a word that is followed by the next one: a committed routine's words are counted (R307). -/
def Context.wordDone (c : Context) : Context :=
  { c with lastPc := c.pc, pc := c.pc + 1, repeats := 0
           sinceCommit := if c.state = .committed then c.sinceCommit + 1 else c.sinceCommit }

/-- The word answers a next state in which its context is `y`, and nothing else has changed from device `d` but the model's own counter of
free values. -/
def ChangesContext (i : Instr) (s : State) (d : Device) (x : CtxIx) (y : Context) : Prop :=
  Reaches i s fun e => e = { (d.onCtx x fun _ => y) with free := e.free }

/-- The commands that carry a microcode write, which may reach the counters of a Balance (log entry 14). -/
def pokes (c : Instr) : Bool :=
  match c with
  | .microWrobj _ _ => true
  | .microAddobj _ _ => true
  | .dbgctl _ .step => true
  | _ => false

/-- The Vector, Strobe and Log Balances hold (R89, R115, R411). -/
def Balanced (d : Device) : Prop :=
  (∀ r : RegionIx, d.regions[r].run.issued = d.regions[r].run.planned + d.regions[r].run.holds ∧
    d.regions[r].run.holds = d.regions[r].stalls.stallHolds + d.regions[r].stalls.redirectHolds) ∧
  (∀ c : CellIx, d.cells[c].counters.strobes = d.cells[c].counters.pass + d.cells[c].counters.fail + d.cells[c].counters.masked) ∧
  d.log.written = d.log.held + d.log.overwritten ∧ d.log.held = min d.log.written 2048

end Sys2Proof.Machine
end

