-- ==== Sys2Proof/Certificates/Slice0/Obligations.lean ====
section
/-!
DEFINITION. The statements about the model. `Gives`, `Reaches`, `Heard`, `MayWrite` and `Accepts` stand in Sys2Proof/Safety.lean:
`Accepts c s h i f` says that command `c` at `s`, a request that frame `h` brings in session place `i`, answers a next state, and
that its device is the one the frame leaves, with `f` applied and an acceptance sent; so it states result and frame at once.
-/
open Sys2Proof Sys2Proof.Machine

/-! ### The step and the rules of every request -/

/-- A step takes the command that waits longest and runs it on the rest of the queue (the block's own form of a step), and every
command answers a next state in every state: no rule stops the block. With no command waiting a step lets 8 192 fu of the time pass
while FCLK runs, and 2.5 ns of the Keeper time while VKEEP is there: with FCLK stopped nothing else happens, and while it runs the
present FCLK cycle ends and the next one begins (R282, R293; log entry 2, a DESIGN CHOICE). -/
def Obligations.StepRunsTheFrontCommand : Prop :=
  (∀ (c : Instr) (rest : List Instr) (d : Device),
    step { pending := c :: rest, dev := d } = exec c { pending := rest, dev := d }) ∧
  (∀ (c : Instr) (s : State), ∃ d, exec c s = .next { s with dev := d }) ∧
  (∀ d : Device,
    let keeper := if d.modes.vkeep then d.keeper2 + 5 else d.keeper2
    (d.modes.clocks = true → step { pending := [], dev := d } = .next { pending := [], dev :=
      ({ d.endCycle with time := d.time + 8192, keeper2 := keeper }).beginCycle }) ∧
    (d.modes.clocks = false → step { pending := [], dev := d } = .next { pending := [], dev := { d with keeper2 := keeper } }))

/-! ### Invariants of every step, and the code that protects stored words -/

/-- Every step, whatever it does, keeps the memories that the model holds as lists by number in their one form: bursts of DRAM,
entries of the Comb, slots of the log ring and writes of units stand in strictly rising order, and no entry of the Comb is listed that
is as a cleared area holds it, so that equal memories are equal data. -/
def Obligations.MemoryStaysCanonical : Prop :=
  ∀ s t : State, Memory.wf s.dev = true → step s = .next t → Memory.wf t.dev = true

/-- R89, R115, R407, R411: every step keeps the Vector Balance of each region, the Strobe Balance of each cell and the Log
Balance. Left out are steps of a microcode write to an object, which may reach the counters themselves (log entry 14). -/
def Obligations.BalancesAreKept : Prop :=
  ∀ s t : State, (∀ c, s.pending.head? = some c → pokes c = false) → Balanced s.dev → step s = .next t → Balanced t.dev

/-- R415 to R419: no step changes the lifecycle fuses but a fuse programming that agrees with its readback and completes, and that
leaves them Sealed or Retired, as the command began it. -/
def Obligations.OnlyFuseProgrammingMovesTheLifecycle : Prop :=
  ∀ s t : State, step s = .next t → t.dev.sec.lifeFuse ≠ s.dev.sec.lifeFuse →
    s.pending.head? = some (.fuseProgrammingComplete true) ∧
    ((s.dev.sec.sealing = some true ∧ t.dev.sec.lifeFuse = .sealed) ∨ (s.dev.sec.sealing = some false ∧ t.dev.sec.lifeFuse = .retired))

/-- R354, R373, R432, R433, R435 and the invariants at reset: the queue is empty and the part waits for PORST_N with the core die
without power, every object at its default (both regions in Configure, pin dies Active once there is power), every cell isolated with
its switches open, no session and no Dealer, an empty log and empty DRAM; and the two invariants hold. Registers that no rule gives a
reset value are not named. -/
def Obligations.ResetLeavesThePartAtItsDefaults : Prop :=
  let d := State.reset.dev
  State.reset.pending = [] ∧ Memory.wf d = true ∧ Balanced d ∧
  d.modes.porst = false ∧ d.modes.coreDie = false ∧ d.modes.clocks = false ∧
  (∀ r : RegionIx, d.regions[r].mode = .configure ∧ d.regions[r].die = .active ∧ d.regions[r].run.state = .idle ∧
    d.regions[r].dram.bursts = []) ∧
  (∀ c : CellIx, d.cells[c].path.request = .isolated ∧ d.cells[c].path.state = .isolated ∧ d.cells[c].path.staticDrive = .off ∧
    d.cells[c].path.swDigital = false ∧ d.cells[c].path.swPmu = false ∧ d.cells[c].path.swJoker = false) ∧
  (∀ k : Fin 16, d.link.sessions[k].attached = false ∧ d.link.sessions[k].secure = false) ∧
  d.link.dealer.session = 0 ∧ d.log.written = 0 ∧ d.log.slots = [] ∧ d.sec.tap = .idcode ∧ d.shed.stage = 0

/-- R252: how the syndrome of any 64 data bits, 8 check bits and fold word is judged: 0 is no error; the column of a data bit or of a
check bit inverts that bit, counted as corrected; any other value is uncorrectable. So of what was written any single wrong bit is
corrected, and any two wrong bits, and a fold word that differs in a single bit, are detected as uncorrectable. -/
def Obligations.CodeCorrectsOneBitAndDetectsTwo : Prop :=
  ∀ (data : BitVec 64) (fold : BitVec 40),
    let v := data.toNat
    let f := fold.toNat
    let c := d72 v f
    d72Decode v c f = some { data := v, chk := c, corrected := false } ∧
    (∀ i, i < 64 → d72Decode (v ^^^ 2 ^ i) c f = some { data := v, chk := c, corrected := true }) ∧
    (∀ j, j < 8 → d72Decode v (c ^^^ 2 ^ j) f = some { data := v, chk := c, corrected := true }) ∧
    (∀ i k, i < k → k < 64 → d72Decode (v ^^^ 2 ^ i ^^^ 2 ^ k) c f = none) ∧
    (∀ i j, i < 64 → j < 8 → d72Decode (v ^^^ 2 ^ i) (c ^^^ 2 ^ j) f = none) ∧
    (∀ j k, j < k → k < 8 → d72Decode v (c ^^^ 2 ^ j ^^^ 2 ^ k) f = none) ∧
    (∀ k, k < 40 → d72Decode v c (f ^^^ 2 ^ k) = none) ∧
    ∀ chk, chk < 256 →
      let s := chk ^^^ c
      (s = 0 → d72Decode v chk f = some { data := v, chk := chk, corrected := false }) ∧
      (∀ i, i < 64 → dataColumns[i]? = some s → d72Decode v chk f = some { data := v ^^^ 2 ^ i, chk := chk, corrected := true }) ∧
      (∀ j, j < 8 → s = 2 ^ j → d72Decode v chk f = some { data := v, chk := chk ^^^ 2 ^ j, corrected := true }) ∧
      (s ≠ 0 → s ∉ dataColumns → (∀ j, j < 8 → s ≠ 2 ^ j) → d72Decode v chk f = none)

/-! ### What every request goes through -/

/-- R360, R361: of the refusals that apply, the answer is the one with the least Code, and of those the least Reason; there is
one exactly when some refusal applies. -/
def Obligations.LeastRefusalIsAnswered : Prop :=
  ∀ l : List Check,
    (firstRefusal l = none ↔ ∀ x ∈ l, x.1 = false) ∧
    ∀ r, firstRefusal l = some r → (true, r.code, r.reason) ∈ l ∧
      ∀ x ∈ l, x.1 = true → r.code < x.2.1 ∨ (r.code = x.2.1 ∧ r.reason ≤ x.2.2)

/-- R358: a Write that the part acts on is applied whole by the rules of its subindex and accepted, or is answered with an error
and changes nothing beside; and where no rule of its subindex refuses it, it is applied. UnlockToken, whose wrong token counts
(R428), and a region whose copy of the Dealer record disagrees (R337) have rules of their own. -/
def Obligations.WriteIsWholeOrRefused : Prop :=
  ∀ (s : State) (h : Hdr) (i : Fin 16) (idx sub : Nat) (w : Data),
    let x := s.dev.heard i h
    Heard s.dev h i → (∀ r, s.dev.copyState r = .same) → ¬(idx = 0x2220 ∧ sub = 4) →
    (Reaches (.write h idx sub w) s fun d =>
      (∃ c r, d = x.refuses i h c r idx sub) ∨
      (∃ m, x.specAt (sessNo i) (x.isSecure i h) idx sub w.val = some m ∧ w.len = m.len ∧ d = (m.apply x).answers i h [])) ∧
    (MayWrite s.dev h i → ∀ (o : Obj) (m : WSpec),
      domainAt idx = none → x.objectAt idx = some o → (∃ e ∈ o.entries, e.sub = sub) →
      x.specAt (sessNo i) (x.isSecure i h) idx sub w.val = some m → firstRefusal m.access = none →
      firstRefusal (x.writeChecks (targetOf idx sub) w m) = none → Accepts (.write h idx sub w) s h i m.apply)

/-- R333, R352: a Write or command from a session that is not the Dealer's is refused with access denied, Reason 0x01, in a part
that is not Blank, and changes nothing but the frame's own records: for each row that writes one register or command. R325: a
frame that is not the one expected is not acted on. One of the 64 before it counts in Duplicates, and is answered again from the
record where it has an answer there; any other counts in OutOfOrder. For each kind of request. -/
def Obligations.OthersRequestsAreNotExecuted : Prop :=
  (∀ (s : State) (h : Hdr) (i : Fin 16) (r : RegionIx) (c : CellIx) (k : WaggleIx) (n : Nat) (w : Data) (v : BitVec 32),
      Heard s.dev h i → s.dev.isDealer i = false → s.dev.sec.life ≠ .blank → 1 ≤ n → n ≤ 6 →
      Gives (.entryIndexWrite h r w) s ((s.dev.heard i h).refuses i h 4 1 (regionBase r + 0x10) 2) ∧
      Gives (.runStart h r v) s ((s.dev.heard i h).refuses i h 4 1 (regionBase r) 0) ∧
      Gives (.pathRequestWrite h c w) s ((s.dev.heard i h).refuses i h 4 1 (cellBase c) 1) ∧
      Gives (.levelsWrite h c n w) s ((s.dev.heard i h).refuses i h 4 1 (cellBase c + 1) n) ∧
      Gives (.measure h c) s ((s.dev.heard i h).refuses i h 4 1 (cellBase c + 3) 0x10) ∧
      Gives (.modeRequestReady h) s ((s.dev.heard i h).refuses i h 4 1 0x2001 1) ∧
      Gives (.logClear h) s ((s.dev.heard i h).refuses i h 4 1 0x2180 1) ∧
      Gives (.fire h k) s ((s.dev.heard i h).refuses i h 4 1 (0x2300 + k.val) 9)) ∧
  (∀ (s : State) (h : Hdr) (i : Fin 16) (act : Instr) (type : Nat),
      s.dev.linkUp h.port = true → s.dev.frameOk h = some i → h.seq ≠ s.dev.link.sessions[i].expected h.port →
      (∃ idx sub w, act = .write h idx sub w ∧ type = 4) ∨ (∃ idx sub o l, act = .readblock h idx sub o l ∧ type = 5) ∨
        (∃ idx sub o l, act = .writeblock h idx sub o l ∧ type = 6) ∨ (∃ o b, act = .blockData h o b ∧ type = 7) ∨
        (act = .detach h ∧ type = 2) ∨ (act = .heartbeat h ∧ type = 12) ∨ (∃ p c, act = .claim h p c ∧ type = 9) ∨
        (∃ n, act = .challenge h n ∧ type = 13) ∨ (∃ m, act = .answer h m ∧ type = 14) ∨
        (∃ w, act = .unlockToken h w ∧ type = 4) ∨ (∃ r w, act = .runStart h r w ∧ type = 4) →
      let back := (s.dev.link.sessions[i].expected h.port + 2 ^ 32 - h.seq) % 2 ^ 32
      let d := s.dev.frameSeen i h.port
      Gives act s (
        if 1 ≤ back ∧ back ≤ 64 then
          let d := d.onPort h.port fun p => { p with duplicates := p.duplicates + 1 }
          match d.link.sessions[i].record.find? fun q => decide (q.1 = h.port) && decide (q.2.1 = h.seq) with
          | some (_, _, r) => d.emit (d.link.frame i (retOf h type) r)
          | none => d
        else d.onPort h.port fun p => { p with outOfOrder := p.outOfOrder + 1 }))

/-- R337: a write to a region's objects, or a command of a region, from a Dealer whose region copy of the Dealer record has a lower
epoch is dropped with access denied, Reason 0x05, and raises DealerEpoch of the region collector; where the copy has an equal epoch
and another owner, or a higher epoch, both regions Fold, and the deal is vacated with EpochConflict and the next epoch. Stated for a
register of a region, its RunCtl and an object of a cell by their own rows, and for every Write of such a register that no rule of
access refuses. -/
def Obligations.RegionCopiesGuardWrites : Prop :=
  ∀ (s : State) (h : Hdr) (i : Fin 16) (r : RegionIx) (c : CellIx) (w : Data) (v : BitVec 32),
    let d := s.dev
    let x := d.heard i h
    let copy := d.regions[r].dealer
    let refused := fun (e : Device) =>
      Gives (.entryIndexWrite h r w) s (e.refuses i h 4 5 (regionBase r + 0x10) 2) ∧
      Gives (.runStart h r v) s (e.refuses i h 4 5 (regionBase r) 0) ∧
      (cellRegion c = r → Gives (.pathRequestWrite h c w) s (e.refuses i h 4 5 (cellBase c) 1)) ∧
      (∀ (idx sub : Nat) (o : Obj) (m : WSpec), (targetOf idx sub).region = some r → domainAt idx = none →
        x.objectAt idx = some o → (∃ y ∈ o.entries, y.sub = sub) → x.specAt (sessNo i) (x.isSecure i h) idx sub w.val = some m →
        firstRefusal m.access = none → Gives (.write h idx sub w) s (e.refuses i h 4 5 idx sub))
    Heard d h i → d.isDealer i = true → d.sec.life ≠ .blank →
    (copy.epoch < d.link.dealer.epoch → refused (x.raise (.region r) 13)) ∧
    ((copy.epoch = d.link.dealer.epoch ∧ (copy.session ≠ d.link.dealer.session ∨ copy.hostId ≠ d.link.dealer.hostId)) ∨ d.link.dealer.epoch < copy.epoch →
      let e := x.epochConflict
      refused e ∧
      (∀ k : RegionIx, d.regions[k].mode ≠ .off → (d.regions[k].mode = .fold → d.regions[k].run.inProgress = false) →
        e.regions[k].mode = .fold) ∧
      e.link.dealer.session = 0 ∧
      e.link.dealer.epoch = (d.link.dealer.epoch + 1) % 2 ^ 32 ∧ e.link.vacateCause = .epochConflict)

/-! ### Setting up a run -/

/-- R26: a write of Coupling takes effect only with neither region in Run or Calibrate, and is else refused with a state conflict; a
change makes the admission result of both regions stale. R70: a write of AnchoredEntries is refused with a state conflict in Run or
Calibrate (in coupled operation, of either region), and out of range for a value that is no multiple of 4 096 or above 491 520;
accepted it empties the anchored entries, makes the Comb Invalid and the admission result stale (of both regions in coupled operation).
A result that is being evaluated is yet to come, and stays so. The writes of a timing set's Period
and cell entries, of EntryIndex and of StallPolicy, where no rule refuses them: what each stores, and that each makes the admission
result stale (R51, R65, R86). -/
def Obligations.SetupWritesStore : Prop :=
  ∀ (s : State) (h : Hdr) (i : Fin 16) (r : RegionIx) (k p : WaggleIx) (w : Data),
    let busy := if s.dev.modes.coupled then s.dev.anyBusy else s.dev.regions[r].busyMode
    MayWrite s.dev h i →
    (s.dev.anyBusy = true → Gives (.couplingWrite h w) s ((s.dev.heard i h).refuses i h 5 1 0x2010 3)) ∧
    (∀ (d : Device) (k : RegionIx), ((d.invalidate 0).invalidate 1).regions[k].adm.result =
      if d.regions[k].adm.result = .evaluating then .evaluating else .none) ∧
    (busy = true → Gives (.anchoredEntriesWrite h r w) s ((s.dev.heard i h).refuses i h 5 1 (regionBase r + 0x20) 1)) ∧
    (busy = false → w.len = 4 → w.val % 4096 ≠ 0 ∨ 491520 < w.val →
      Gives (.anchoredEntriesWrite h r w) s ((s.dev.heard i h).refuses i h 7 1 (regionBase r + 0x20) 1)) ∧
    (∀ (d : Device) (k : RegionIx), k = r ∨ d.modes.coupled = true → (d.invalidate r).regions[k].adm.result =
      if d.regions[k].adm.result = .evaluating then .evaluating else .none) ∧
    (w.len = 1 → w.val < 2 → s.dev.anyBusy = false →
      Accepts (.couplingWrite h w) s h i fun d =>
        if d.modes.coupled = decide (w.val = 1) then d
        else (({ d with modes := { d.modes with coupled := decide (w.val = 1) } }).invalidate 0).invalidate 1) ∧
    (w.len = 8 → s.dev.regions[r].busyMode = false →
      Accepts (.timingSetPeriodWrite h r k w) s h i fun d => d.onSet r k.val fun t => { t with period := w.val }) ∧
    (w.len = 40 → s.dev.regions[r].busyMode = false →
      Accepts (.cellTimingWrite h r k p w) s h i fun d =>
        d.onSet r k.val fun t => { t with cells := vmap (fun j e => if j = p.val then CellEntry.ofNat w.val else e) t.cells }) ∧
    (w.len = 2 → w.val ≤ 16383 →
      Accepts (.entryIndexWrite h r w) s h i fun d =>
        if d.regions[r].entry = w.val then d else (d.onRegion r fun x => { x with entry := w.val }).invalidate r) ∧
    (w.len = 4 → w.val % 4096 = 0 → w.val ≤ 491520 → busy = false →
      Accepts (.anchoredEntriesWrite h r w) s h i fun d =>
        (d.onRegion r fun x => { x with anchored := w.val, combData := [], comb := .invalid }).invalidate r) ∧
    (w.len = 4 → w.val / 256 % 256 ≠ 0 → s.dev.regions[r].busyMode = false →
      Accepts (.stallPolicyWrite h r w) s h i fun d =>
        (d.onRegion r fun x => { x with stallFold := w.val.testBit 0, restartDepth := w.val / 256 % 256 }).invalidate r)

/-! ### Runs -/

/-- R91, R96: what the words of RunCtl without Start do: Class and Scheduled are kept (a change of Class makes the admission
result stale); Admit asks for an admission of every region of the run; Stop ends a run that has issued no vector with EndReason
0x02 and drains one that has; Abort ends a run that has issued no vector with EndReason 0x03 at once, and one that plays at the next
vector boundary (`SlotsIssueVectors`); an admission that the run waited for is abandoned. Region B's RunCtl neither stops nor aborts a coupled run (the
model's reading of R27, log entry 30). R96, R97: an accepted Start with the Class unchanged puts every region of the run into mode
Run, with its run in Prefill where every admission result is current and in Admitting where not, and with the run's counters
cleared. -/
def Obligations.RunCtlRowsAct : Prop :=
  (∀ (s : State) (h : Hdr) (i : Fin 16) (r : RegionIx) (v : BitVec 32),
    MayWrite s.dev h i → (v.toNat / 16) % 4 ≠ 3 →
    (v.toNat % 16 = 0 → Accepts (.runClassWrite h r v) s h i fun d => d.putRunCtl r v.toNat) ∧
    (v.toNat % 16 = 8 →
      Accepts (.runAdmit h r v) s h i fun d =>
        (d.putRunCtl r v.toNat).onGroup r fun x => { x with adm := { x.adm with result := .evaluating } }) ∧
    (v.toNat % 16 = 2 → s.dev.follows r = false →
      Accepts (.runStop h r v) s h i fun d =>
        let e := d.putRunCtl r v.toNat
        match d.regions[r].run.state with
        | .admitting => (e.dropAdmission r).endGroup r 2 false
        | .prefill | .armed => e.endGroup r 2 false
        | .running | .holding => e.startDrain r 2
        | _ => e) ∧
    (v.toNat % 16 = 4 → s.dev.follows r = false →
      Accepts (.runAbort h r v) s h i fun d =>
        let e := d.putRunCtl r v.toNat
        match d.regions[r].run.state with
        | .running | .holding | .draining => (d.group r).foldl (fun d g => d.endAtNext g 3) e
        | .admitting => (e.dropAdmission r).endGroup r 3 true
        | .prefill | .armed => e.endGroup r 3 true
        | _ => e)) ∧
  (∀ (s : State) (h : Hdr) (i : Fin 16) (r : RegionIx) (v : BitVec 32),
    MayWrite s.dev h i → v.toNat % 16 = 1 → RunClass.ofCode (v.toNat / 16 % 4) = s.dev.regions[r].run.cls →
    (v.toNat / 16) % 4 ≠ 3 → firstRefusal (s.dev.startChecks r (v.toNat.testBit 8)) = none →
    Reaches (.runStart h r v) s fun d =>
      (∃ e : Device, d = e.answers i h []) ∧ ∀ g ∈ s.dev.group r,
        d.regions[g].mode = .run ∧
        d.regions[g].run.state =
          (if (s.dev.group r).all fun k => s.dev.regions[k].adm.result.admits then .prefill else .admitting) ∧
        d.regions[g].run.issued = 0 ∧ d.regions[g].run.cycle = 0 ∧ d.regions[g].run.holds = 0 ∧ d.regions[g].stalls = {} ∧
        d.regions[g].tally.counters = {} ∧ d.regions[g].seq.accs = 0)

/-- R91, R97, R339, R340, R62: the events that move a run on: an admission that was asked for ends; the ring is full; the time
of a scheduled start has come, or an edge of SYNC0 or SYNC1; every spilled event of a drain is judged. -/
def Obligations.RunEventsMoveTheRun : Prop :=
  ∀ (s : State) (r : RegionIx) (errs : List ReadErr),
    let d := s.dev
    (d.follows r = false → d.regions[r].adm.result = .evaluating →
      Gives (.admissionComplete { region := r, errs }) s (
        let e := d.evaluateRun r errs
        if e.regions[r].run.state ≠ .admitting then e
        else if e.regions[r].adm.result.admits then e.enterPrefill r
        else e.endGroup r 9 false)) ∧
    (d.follows r = false → d.regions[r].run.state = .prefill → (∀ g ∈ d.group r, d.regions[g].prefilled = true) →
      Gives (.prefillComplete r) s (
        if d.regions[r].run.scheduled then d.reachArmed r
        else (d.onGroup r fun x =>
          { x with run := { x.run with state := .running }, seq := { x.seq with nextStart := some d.time } }).slot r true noStrike noStrike)) ∧
    (d.dueRuns ≠ [] → d.sched.source = 0 → d.modes.clocks = true →
      Gives .scheduledStartDue s (
        let e := d.advanceNs d.sched.time
        e.dueRuns.foldl (Device.startArmed e.time false) e)) ∧
    (d.dueRuns ≠ [] → d.sched.source = 2 → d.sched.role = 2 → d.modes.clocks = true →
      Gives .scheduledStartDue s (d.advanceNs d.sched.time).driveSync0) ∧
    (d.sched.role ≠ 0 → d.sched.source ≠ 0 → d.armedRuns ≠ [] →
      Gives .sync0Edge s (
        let e := { d with sched := { d.sched with lastEdge := d.keeper2 / 2 } }
        d.armedRuns.foldl (Device.startArmed (d.time + 655360 + d.sched.deskew) false) e)) ∧
    (d.sched.role ≠ 0 → d.sched.source = 0 ∨ d.armedRuns = [] →
      Gives .sync0Edge s { d with sched := { d.sched with lastEdge := d.keeper2 / 2, ignored := d.sched.ignored + 1 } }) ∧
    (d.sched.role ≠ 0 →
      Gives .sync1Edge s (
        ([0, 1].filter fun g => d.sched.regions.testBit g.val && d.regions[g].run.armedOrRunning && !d.follows g).foldl
          (fun d g => d.stopRun g) d)) ∧
    (d.follows r = false → d.regions[r].run.state = .draining → d.endings r = [] → (∀ g ∈ d.group r, d.settled g = true) →
      Gives (.drainComplete r) s (d.endGroup r d.regions[r].run.drainReason false))

/-! ### The sequencer -/

/-- R73, R82: LOOP, ENDLOOP, JUMP, CALL, RETURN and SIGNAL move the sequencer to their next instruction and do nothing else; a
LOOP pushes the index that follows it and its Count, a CALL the index that follows it; SIGNAL marks its channel for the next
vector. R67, R73, R84, R97: a PLAY or REPEAT starts its segment of Count vectors at its address and set (on a path that was not
predicted, DRAM vectors first wait for the ring), and HALT stops the issue of vectors and drains the run. -/
def Obligations.SequencerInstructionsAct : Prop :=
  (∀ (s : State) (r : RegionIx) (w : BitVec 128),
    let c := s.dev.regions[r].seq.cur
    let goes := fun (i : Instr) (c : Cursor) => Gives i s (s.dev.onSeq r fun q => { q with cur := c })
    (Decides s.dev r .loop w →
      goes (.seqLoop r) { c with pc := c.pc + 1, loops := (c.pc + 1, (w.extractLsb' 64 32).toNat) :: c.loops }) ∧
    (Decides s.dev r .endloop w →
      (∀ b n l, c.loops = (b, n) :: l → 2 ≤ n → goes (.seqEndloop r) { c with pc := b, loops := (b, n - 1) :: l }) ∧
      (∀ b n l, c.loops = (b, n) :: l → n ≤ 1 → goes (.seqEndloop r) { c with pc := c.pc + 1, loops := l })) ∧
    (Decides s.dev r .jump w → goes (.seqJump r) { c with pc := (w.extractLsb' 32 14).toNat }) ∧
    (Decides s.dev r .call w →
      goes (.seqCall r) { c with pc := (w.extractLsb' 32 14).toNat, calls := (c.pc + 1) :: c.calls }) ∧
    (Decides s.dev r .ret w → ∀ a l, c.calls = a :: l → goes (.seqReturn r) { c with pc := a, calls := l }) ∧
    (Decides s.dev r .signal w →
      Gives (.seqSignal r) s (s.dev.onSeq r fun q =>
        { q with signals := q.signals ||| BitVec.ofNat 64 (2 ^ (w.extractLsb' 102 6).toNat), cur := { c with pc := c.pc + 1 } }))) ∧
  (∀ (s : State) (r : RegionIx) (w : BitVec 128) (op : SeqOp),
    let seg : Segment :=
      { op, index := s.dev.regions[r].seq.cur.pc, address := (w.extractLsb' 0 32).toNat, tset := (w.extractLsb' 118 6).toNat
        left := (w.extractLsb' 64 32).toNat, issued := 0 }
    let started := s.dev.onSeq r fun q =>
      { q with seg := seg, busy := true, redirected := false
               hold := if q.redirected && !w.getLsbD 31 then some .redirect else q.hold }
    (Decides s.dev r .play w → op = .play → Gives (.seqPlay r) s started) ∧
    (Decides s.dev r .repeat w → op = .repeat → Gives (.seqRepeat r) s started) ∧
    (Decides s.dev r .halt w → s.dev.regions[r].run.state = .running ∨ s.dev.regions[r].run.state = .holding →
      Gives (.seqHalt r) s (s.dev.onGroup r fun x =>
        { x with run := { x.run with state := .draining, drainReason := 1 }
                 seq := { x.seq with busy := false, hold := none, nextStart := none } })))

/-- R76, R79 to R81, R84: BRANCH, MATCH and WAIT decide by what is in under R75 and R76. A BRANCH on Hint's path needs no
redirect, one against it redirects both regions; a MATCH ends by match when an iteration with all results in has passed, by
timeout when Count iterations have issued, and else issues one more; a WAIT ends when its latch is seen set, clearing it, by
timeout after Count repetitions, and else repeats its vector. -/
def Obligations.ConditionsDecideTransfers : Prop :=
  ∀ (s : State) (r : RegionIx) (w : BitVec 128),
    (Decides s.dev r .branch w →
      let e := s.dev.absorb r
      let q := e.regions[r].seq
      let next := (e.onSeq r fun q => q.branched w).onSeq r fun q =>
        { q with cur := { q.cur with pc := if (e.regions[r].seq).condition w then (w.extractLsb' 32 14).toNat else q.cur.pc + 1 } }
      ¬((w.extractLsb' 108 4).toNat = 2 ∨ (w.extractLsb' 108 4).toNat = 3) ∨ q.nextStart ≠ none →
      Gives (.seqBranch r) s (if q.condition w = w.getLsbD 117 then next else (e.group r).foldl Device.redirect next)) ∧
    (Decides s.dev r .matchOp w →
      let e := s.dev.absorb r
      let q := e.regions[r].seq
      Gives (.seqMatch r) s (
        if q.iterations.any fun k => e.allIn r k && k.judged && !k.failed then
          (e.onGroup r fun x => { x with seq := { x.seq with matched := true, iterations := [] } }).onSeq r fun q =>
            { q with cur := { q.cur with pc := q.cur.pc + 1 } }
        else if q.iterations.length = (w.extractLsb' 64 32).toNat then
          (e.group r).foldl Device.redirect ((e.onGroup r fun x => { x with seq := { x.seq with matched := false, iterations := [] } }).onSeq r fun q =>
            { q with cur := { q.cur with pc := (w.extractLsb' 32 14).toNat } })
        else
          (e.onSeq r fun q => { q with iterations := q.iterations ++ [{ count := (w.extractLsb' 48 16).toNat }] }).startSegment r
            { op := .matchOp, index := q.cur.pc, address := (w.extractLsb' 0 32).toNat, tset := (w.extractLsb' 118 6).toNat
              left := (w.extractLsb' 48 16).toNat })) ∧
    (Decides s.dev r .wait w →
      let q := s.dev.regions[r].seq
      let n := if q.seg.op = .wait ∧ q.seg.index = q.cur.pc then q.seg.issued else 0
      q.nextStart ≠ none →
      Gives (.seqWait r) s (
        if q.sees (iChan w) then
          (s.dev.onSeq r fun q => { q.clearLatch (iChan w) with seg := {} }).onSeq r fun q =>
            { q with cur := { q.cur with pc := q.cur.pc + 1 } }
        else if (w.extractLsb' 64 32).toNat ≠ 0 ∧ n = (w.extractLsb' 64 32).toNat then
          (s.dev.group r).foldl Device.redirect (s.dev.onSeq r fun q =>
            { q with seg := {}, cur := { q.cur with pc := (w.extractLsb' 32 14).toNat } })
        else s.dev.startSegment r
          { op := .wait, index := q.cur.pc, address := (w.extractLsb' 0 32).toNat, tset := (w.extractLsb' 118 6).toNat
            left := 1, issued := n }))

/-- R23, R41, R83 to R85, R78: the slots of a run. A planned vector that is due issues in every region of the run where the
sequencer has decided it and every ring has it; where a ring lacks it, or while a hold is not over, a hold vector issues with
the set and period of the last one; a burst read enters the ring; the oldest result that is due enters decisions; a later iteration
of MATCH begins without a decision of the engine. R28, R97, R386: a run told to end while its vectors play ends at the next vector
boundary, the start of the next vector or the end of the last one: the slot of the next vector ends it in each of its regions that was told
to, with the reason that was told first, and the drive edges that lie before the boundary have happened. No vector issues there. -/
def Obligations.SlotsIssueVectors : Prop :=
  (∀ (s : State) (r : RegionIx) (own other : CombErr) (t : Nat),
    let d := s.dev
    d.follows r = false → d.regions[r].run.state = .running ∨ d.regions[r].run.state = .holding →
    d.regions[r].seq.nextStart = some t → d.endings r = [] →
    (d.regions[r].seq.hold = none → d.regions[r].seq.busy = true → d.late r = [] →
      Gives (.vectorIssue r own other) s (d.issuePlanned r own other)) ∧
    (∀ k, d.regions[r].seq.hold = some k → d.holdOver r = true →
      Gives (.vectorIssue r own other) s ((d.endHold r).issuePlanned r own other)) ∧
    (∀ k, d.regions[r].seq.hold = some k → d.holdOver r = false → Gives (.holdVectorIssue r) s (d.issueHold r k)) ∧
    (d.regions[r].seq.hold = none → d.regions[r].seq.busy = true → d.late r ≠ [] →
      Gives (.holdVectorIssue r) s (d.stall r (d.late r)) ∧ Gives (.vectorIssue r own other) s (d.stall r (d.late r))) ∧
    (∀ b l, d.regions[r].fetch.returned = b :: l →
      let e := d.onRegion r fun x => ({ x with fetch := { x.fetch with returned := l } }).enterRing b
      Gives (.ringEntryArrival r) s (
        if e.regions[d.leader r].seq.hold.isSome && e.holdOver (d.leader r) then e.endHold (d.leader r) else e)) ∧
    (∀ q, (d.regions[r].lagged.find? fun q => q.due d.regions[d.leader r].seq.nextStart) = some q →
      Gives (.failAccumulatorSet r) s ((d.onRegion r fun x => { x with lagged := x.lagged.erase q }).enter r r q)) ∧
    (d.regions[r].seq.busy = false → d.regions[r].seq.hold = none → seqOp (d.instr r) = some .matchOp →
      d.regions[r].seq.iterations ≠ [] → d.late r = [] →
      let e := d.match' r (d.instr r)
      e.late r = [] →
      Gives (.vectorIssue r own other) s (
        if e.regions[r].seq.busy then
          match e.regions[r].seq.hold with
          | none => e.issuePlanned r own other
          | some _ => if e.holdOver r then (e.endHold r).issuePlanned r own other else e
        else e))) ∧
  (∀ (s : State) (r g : RegionIx) (own other : CombErr) (l : List RegionIx),
    let d := s.dev
    d.endings r = g :: l →
    let e := d.advanceFu d.regions[g].seq.boundary
    let f := ((g :: l).foldl Device.endAtBoundary e).shedFolds.refreshMode
    Gives (.vectorIssue r own other) s f ∧ Gives (.holdVectorIssue r) s f) ∧
  (∀ (d : Device) (k : RegionIx) (n : Nat), d.regions[k].run.ending = some n → d.regions[k].run.inProgress = true →
    (d.endAtBoundary k).regions[k].run.endReason = n ∧ (d.endAtBoundary k).regions[k].run.inProgress = false ∧
    ∀ c : CellIx, cellRegion c = k → (d.endAtBoundary k).cells[c].edges = []) ∧
  (∀ (d : Device) (k : RegionIx) (m n : Nat), (d.endAtNext k m).endAtNext k n = d.endAtNext k m)

/-! ### The pin link and the cells -/

/-- R20, R21: while the link of a region runs, a down frame of 18 codewords that passes its check, with no error or with corrected ones,
which are counted, applies the vectors that start in its FCLK cycle, as they come out of the frame; a lost one turns the region's drivers
off, applies none of them and raises LinkDown; an up frame of 5 codewords brings back the masks of up to four vectors that are ready, or
loses them, counts them, and raises LinkUp. A frame that no error strikes carries what it was given, and one wrong bit of it is corrected
(the layout of the words within a frame is the model's, log entry 40). -/
def Obligations.FramesCarryVectors : Prop :=
  (∀ (s : State) (r : RegionIx) (data : BitVec 1152) (chk : BitVec 144),
    let d := s.dev
    let l := d.regions[r].nextFrame
    let w := crossLink 18 (frameWords l) data.toNat chk.toNat
    let e := if w.corrected = 0 then d else d.raise (.region r) 0
    d.linkRuns r = true →
    (w.ok = true → Gives (.downFrame r data chk) s (l.zipIdx.foldl (fun d (v, i) => d.applyVector r (frameVector w.data i v)) e)) ∧
    (w.ok = false → Gives (.downFrame r data chk) s (
      let gone := l.map (·.order)
      ((e.onRegion r fun x => { x with vecs := x.vecs.filter fun v => !gone.contains v.order }).onCells (inRegion r)
        fun x => x.drive .off).raise (.region r) 1))) ∧
  (∀ (s : State) (r : RegionIx) (data : BitVec 320) (chk : BitVec 40),
    let d := s.dev
    let l := d.regions[r].nextUp
    let w := crossLink 5 (upWords l) data.toNat chk.toNat
    let e := if w.corrected = 0 then d else d.raise (.region r) 0
    let place := fun (v : VecRec) => (l.map (·.order)).idxOf v.order
    let back := e.onRegion r fun x => { x with vecs := x.vecs.map fun v => if place v < l.length then v.back w (place v) else v }
    d.linkRuns r = true →
    (w.ok = true → Gives (.upFrame r data chk) s back) ∧
    (w.ok = false → Gives (.upFrame r data chk) s (((back.onTally r fun t =>
      { t with counters := { t.counters with lostMasks := t.counters.lostMasks + l.length } }).voidRun r).raise (.region r) 2))) ∧
  (∀ (n words i : Nat), words < 2 ^ (64 * n) → i < 64 * n →
    (crossLink n words 0 0).ok = true ∧ (crossLink n words 0 0).data = words ∧ (crossLink n words 0 0).corrected = 0 ∧
    (crossLink n words (2 ^ i) 0).ok = true ∧ (crossLink n words (2 ^ i) 0).data = words ∧ (crossLink n words (2 ^ i) 0).corrected = 1)

/-- R44, R52, R102, R103, R108, R111, R126: a drive edge that waits happens: the driver takes its state, and stays off where the
driver of the ball is cut off or tripped; a clock with no request waiting makes its next edge, and a Z finding it gated low turns the driver off at the vector's start; levels that settle stand at the
DACs; and each of these changes one cell alone. -/
def Obligations.CellEventsAct : Prop :=
  ∀ (s : State) (c : CellIx),
    let x := s.dev.cells[c]
    let only := fun (i : Instr) (y : Cell) => Gives i s (s.dev.onCell c fun _ => y)
    (∀ e l, x.edges = e :: l →
      let y := { x with edges := l }
      only (.driveEdge c) (match e.act with
        | .off => y.driveAt e.at' .off
        | .level b => y.driveAt e.at' (if b.xor x.invert then .high else .low)
        | .clock => y.frcUntil e.at')) ∧
    (∀ e l n, x.edges = e :: l → e.act = .clock → x.frc.ctl = [{ at' := n, op := .z }] → n ≤ e.at' → x.frc.running = true →
      n ≤ x.frc.next → x.frc.gate = .low →
      Reaches (.driveEdge c) s fun d => d.cells[c].path.driver = .off) ∧
    (x.frc.ctl = [] → x.frc.running = true → x.frc.stopping = false → x.frc.wantOff = false → x.frc.off = false →
      x.frc.want = .run → x.frc.rises = true →
      only (.frcEdge c) (({ x with frc := { x.frc with next := x.frc.next + x.frc.d1, rises := false, gate := .run } }).driveAt
        x.frc.next (if x.invert then .low else .high))) ∧
    (x.frc.ctl = [] → x.frc.running = true → x.frc.stopping = false → x.frc.wantOff = false → x.frc.off = false →
      x.frc.want = .run → x.frc.rises = false →
      only (.frcEdge c) (({ x with frc :=
          { x.frc with next := x.frc.next + (x.frc.d2 - x.frc.d1), rises := true, gate := .run } }).driveAt
        x.frc.next (if x.invert then .high else .low))) ∧
    (x.path.levelsSettling = true → x.pmuStatus.clearHeld = false →
      Gives (.levelsSettled c) s ((s.dev.onCell c fun x => { x with
        path := { x.path with levelsSettling := false }
        dacs := { x.dacs with vih := levelCode x.levels.vih, vil := levelCode x.levels.vil, vt := levelCode x.levels.vt
                              voh := levelCode x.levels.voh, vol := levelCode x.levels.vol } }).lookAgain c)) ∧
    (x.path.step ≠ some .bridgeIn → x.path.step ≠ some .bridgeOut →
      Gives (.switchSensed c) s (
        ((s.dev.onCell c Cell.switched).onCell c fun x => x.dequeue (2 ≤ s.dev.shed.stage)).fullEnd (cellRegion c)))

/-- R111 to R114, R118: the oldest strobe event of a cell is judged once: it counts in Strobes and in exactly one outcome, it
fails where the class seen is none that it expects, its result joins those of the region, and no other cell changes. For a cell
whose levels are settled. R105: a crossing brings the input to a cell whose levels are settled; where the comparator is connected
and had an output, each of its two outputs goes high above its threshold by half the hysteresis and low below it by as much, and
keeps its state between; the threshold lies at the nearest code of the level but for the trims still pending (log entry 49). In the other
cells nothing changes but the stampers of its block, which may take it as a stop. -/
def Obligations.StrobesAndCrossingsAct : Prop :=
  (∀ (s : State) (c : CellIx) (q : Strobe) (l : List Strobe),
    let x := s.dev.cells[c]
    let o := q.judge x.path.compares x.lastSample x.cls
    x.strobes = q :: l → x.path.levelsSettling = false →
    Reaches (.strobeEvent c) s fun d =>
      let y := d.cells[c]
      y.strobes = l ∧ y.counters.strobes = x.counters.strobes + 1 ∧
      y.counters.pass = x.counters.pass + (if o = .pass then 1 else 0) ∧
      y.counters.fail = x.counters.fail + (if o = .fail then 1 else 0) ∧
      y.counters.masked = x.counters.masked + (if o = .masked then 1 else 0) ∧
      (o = .pass ↔ x.path.compares = true ∧ q.maskAll = false ∧
        ∃ e, q.ask.expects x.lastSample = some e ∧ e.meets x.cls = true ∧ q.bad = false) ∧
      (o = .masked ↔ x.path.compares = false ∨ q.maskAll = true ∨ q.ask.expects x.lastSample = none) ∧
      (o = .fail → x.firstFail = none → ∃ f, y.firstFail = some f ∧ f.cycle = q.cycle ∧ f.observed = x.cls) ∧
      (x.firstFail ≠ none → y.firstFail = x.firstFail) ∧
      d.regions[cellRegion c].lagged = s.dev.regions[cellRegion c].lagged ++
        [{ order := q.order, pos := c.val % 64, closes := q.closes, judged := decide (o ≠ .masked), failed := decide (o = .fail) }] ∧
      (∀ e : CellIx, e ≠ c → d.cells[e] = s.dev.cells[e]) ∧ d.link = s.dev.link ∧ d.drams = s.dev.drams ∧ d.ryu = s.dev.ryu) ∧
  (∀ (s : State) (c : CellIx) (uv : Int) (coarse : Nat) (tap : Fin 128) (hi lo : Bool),
    let x := s.dev.cells[c]
    let half : Int := 500 * x.levels.hyst
    let next := fun (thr : Int) (was : Bool) =>
      if aboveBy uv thr half then true else if belowBy uv thr half then false else was
    let u := s.dev.judge c
    x.path.levelsSettling = false →
    Reaches (.comparatorCrossing c uv coarse tap) s fun d =>
      d.cells[c].input = uv ∧
      (x.path.compares = true → x.voh = some hi → x.vol = some lo →
        d.cells[c].voh = some (next (u.level 3 x.dacs.voh) hi) ∧ d.cells[c].vol = some (next (u.level 4 x.dacs.vol) lo)) ∧
      (x.path.compares = false → x.path.early = false → d.cells[c].voh = x.voh ∧ d.cells[c].vol = x.vol) ∧
      (∀ e : CellIx, e ≠ c → d.cells[e] = { s.dev.cells[e] with tmuResult := d.cells[e].tmuResult }) ∧
      (∀ e : CellIx, cellBlock e ≠ cellBlock c → d.cells[e] = s.dev.cells[e]) ∧ d.regions = s.dev.regions ∧ d.link = s.dev.link)

/-- R107 to R110, R113, R122, R124: the writes of a cell where no rule refuses them. Levels are stored whole, settle at the DACs,
and make an admission result stale where the swing changes; FormatTerm keeps its defined bits; Clear clears the strobe counters;
PathRequest moves the switches; StaticDrive drives the cell. -/
def Obligations.CellWritesAct : Prop :=
  ∀ (s : State) (h : Hdr) (i : Fin 16) (c : CellIx) (sub : Nat) (w : Data),
    let d := s.dev
    let m := d.regions[cellRegion c].mode
    let l := d.cells[c].levels.put sub w.val
    MayWrite d h i → d.dieOff (cellRegion c) = false →
    (1 ≤ sub → sub ≤ 6 → w.len = (if sub = 6 then 1 else 4) → firstRefusal l.checks = none → m ≠ .calibrate →
      (m = .run → d.swingOk c l = true) →
      Accepts (.levelsWrite h c sub w) s h i fun d =>
        let e := ((d.settleNow c).onCell c fun x => (x.storeLevels l).blankWrite).onCell c fun x =>
          { x with quietFrom := d.time + 3276800 }
        if l.vih ≠ d.cells[c].levels.vih ∨ l.vil ≠ d.cells[c].levels.vil then e.invalidate (cellRegion c) else e) ∧
    (w.len = 4 → w.val % 4 ≠ 3 → m ≠ .run → m ≠ .calibrate →
      Accepts (.formatTermWrite h c w) s h i fun d => d.onCell c fun x =>
        { (x.termPath (w.val % 4)) with
            formatTerm := BitVec.ofNat 32 w.val &&& 0xC3
            strobes := x.strobes.map fun q => if d.time < q.start then { q with maskAll := w.val.testBit 7 } else q }) ∧
    (w.len = 1 → w.val = 1 → m ≠ .run → m ≠ .calibrate →
      Accepts (.strobeCountersClear h c w) s h i fun d => d.onCell c fun x => { x with counters := {} }) ∧
    (w.len = 1 → w.val < 3 → m ≠ .run → m ≠ .calibrate → d.cells[c].path.substituted = false → d.folded c = false →
      d.cells[c].path.state ≠ .switching →
      Accepts (.pathRequestWrite h c w) s h i fun d => d.onCell c fun x =>
        let x := (x.requestPath (match w.val with | 0 => .isolated | 1 => .digital | _ => .parametric)).blankWrite
        if x.pmuStatus.firstRestore && d.modes.clrN then x.restore else x) ∧
    (w.len = 1 → w.val < 3 → m ≠ .run → m ≠ .calibrate →
      Accepts (.staticDriveWrite h c w) s h i fun d =>
        (d.onCell c fun x =>
          let x := { x with frc := {}, path := { x.path with staticDrive := match w.val with | 0 => .off | 1 => .low | _ => .high } }
          x.drive x.path.static).onCell c fun x => { x with quietFrom := d.time + 3276800 })

/-! ### The Tally -/

/-- R127 to R129, R134, R136, R137, R140, R142: the commands of the Tally: a freeze and an unfreeze request; the oldest vector,
once its mask is complete, is processed and leaves the list; after 1 µs what stands ready is written; and the next burst of a write under
way completes, the records it ends stored, or fails, the records it touches dropped. Errors may strike the records that wait in the FIFO,
and a record that its three codewords do not restore is dropped as it leaves the FIFO. -/
def Obligations.TallyCommandsAct : Prop :=
  ∀ (s : State) (h : Hdr) (i : Fin 16) (r : RegionIx) (errs : List FifoErr) (ok : Bool) (e1 e2 : ErrPat),
    let d := s.dev
    let struck := fun (e : Device) => (e.onTally r fun t => t.strike errs).drain r
    (MayWrite d h i → Accepts (.tallyFreeze h r) s h i fun d => d.freezeRequest r) ∧
    (MayWrite d h i → Accepts (.tallyUnfreeze h r) s h i fun d => d.unfreezeRequest r) ∧
    (∀ v l, d.regions[r].vecs = v :: l → v.applied = true → v.returned = true ∨ v.lost = true → d.partnerComplete r v = true →
      Gives (.tallyVectorProcess r errs) s (struck (d.finishVector r v))) ∧
    Gives (.tallyIdleTimeout { region := r, errs }) s (struck ((if d.regions[r].tally.state = .held then d.serviceExit r else d).onTally r fun t =>
      { t with flush := true })) ∧
    (let e := struck d
     let x := e.regions[r]
     let w := e.tallyBurst r
     x.tally.writing ≠ [] → e.draining r = true → e.tallyGrant r = true → x.dram.areaCapacity ≠ 0 → x.dram.place w.burst ≠ none →
      let f := e.onMem r fun m => { m with regT := m.regT.spend }
      let f := if ok then f.writeBurst r w e1 e2 else f.writeLost r w e1 e2
      let f := (f.onTally r fun t => t.burstDone x.dram.areaCapacity w.bytes ok).firstDrop r x.tally.counters.drops
      Gives (.tallyWriteComplete r { ok, errs, first := e1, second := e2 }) s ((f.onTally r Tally.rest).drain r)) ∧
    (∀ (e : Device) (q : FifoRecord) (l : List FifoRecord) (k n : Nat), e.regions[r].tally.fifo = q :: l → q.check.ok = false →
      Device.takeRecords r (n + 1) (k + 1) e =
        Device.takeRecords r n (k + 1) ((e.onTally r fun t => { t with fifo := l }).dropDamaged r q)) ∧
    (∀ (q : FailRecord) (n b : Nat), b < 192 →
      let x := q.store n
      x.check.ok = true ∧ x.check.data = q.bits ∧ x.check.corrected = 0 ∧
      ({ x with data := x.data ^^^ BitVec.ofNat 192 (2 ^ b) }).check.data = q.bits ∧
      ({ x with data := x.data ^^^ BitVec.ofNat 192 (2 ^ b) }).check.corrected = 1)

/-- R148, R149: the processing of a vector and the drain's 1 µs timeout keep the Fail Balance, Fails = Stored + DroppedRecords +
FifoLevel, and FailVectors = Fails + NotSelected + FrozenSkipped, of a Tally that is not held. -/
def Obligations.TallyKeepsTheFailBalance : Prop :=
  ∀ (s t : State) (r : RegionIx) (errs : List FifoErr),
    let holds := fun (x : Tally) => x.counters.fails = x.counters.stored + x.counters.drops + x.level ∧
      x.counters.failVectors = x.counters.fails + x.counters.notSelected + x.counters.frozenSkipped
    s.dev.regions[r].tally.state ≠ .held → holds s.dev.regions[r].tally →
    (exec (.tallyVectorProcess r errs) s = .next t ∨ exec (.tallyIdleTimeout { region := r, errs }) s = .next t) →
    holds t.dev.regions[r].tally

/-! ### The edge stampers -/

/-- R157, R158, R160 to R162, R168, R171: the writes of a stamper's Mode and its commands, where no rule refuses them, and the
closing of a window and of a gate: each changes one cell. -/
def Obligations.StampersAct : Prop :=
  ∀ (s : State) (h : Hdr) (i : Fin 16) (c : CellIx) (w : Data),
    let d := s.dev
    let x := d.cells[c]
    let m := d.regions[cellRegion c].mode
    (MayWrite d h i → d.dieOff (cellRegion c) = false →
      (w.len = 1 → w.val ≤ 4 → m ≠ .run → m ≠ .calibrate → x.tmuResult.state ≠ .capturing → (x.tmu.polarity = 3 → w.val = 1) →
        Accepts (.tmuModeWrite h c w) s h i fun d => d.onCell c fun x =>
          { x with tmu := { x.tmu with mode := tmuMode w.val }, tmuResult := x.tmuResult.onMode (tmuMode w.val) }) ∧
      (m = .ready ∨ m = .run → x.tmu.mode = .armed ∨ x.tmu.mode = .frequency ∨ x.tmu.mode = .interval → x.tmu.armSource = 0 →
        x.tmuResult.state = .idle → Accepts (.tmuArm h c) s h i fun d => d.onCell c fun x => x.arm d.nextFclk) ∧
      (x.tmuResult.gating = true → Accepts (.tmuDisarm h c) s h i fun d => d.onCell c fun x =>
        { x with tmuResult := (x.tmuResult.missed x.undecided).idle, windows := [] }) ∧
      (x.tmuResult.state ≠ .capturing →
        Accepts (.tmuClearResults h c) s h i fun d => d.onCell c fun x => { x with tmuResult := x.tmuResult.clear })) ∧
    (∀ q l, x.windows = q :: l →
      Gives (.tmuWindowClose c) s (d.onCell c fun x =>
        { x with windows := l, tmuResult := x.tmuResult.decide' x.tmu q (d.judgeSuspect c) })) ∧
    (x.tmuResult.gating = true → x.tmu.mode = .armed →
      Gives (.tmuGateClose c) s (d.onCell c fun x => { x with tmuResult := (x.tmuResult.missed x.undecided).idle })) ∧
    (x.tmuResult.gating = true → x.tmu.mode = .interval → x.tmuResult.gatesLeft ≤ 1 →
      Gives (.tmuGateClose c) s (d.onCell c fun x => { x with tmuResult := (x.tmuResult.missed x.undecided).idle })) ∧
    (x.tmuResult.gating = true → x.tmu.mode = .frequency → x.tmuResult.gatesLeft ≤ 1 →
      Gives (.tmuGateClose c) s (d.onCell c fun x =>
        { x with tmuResult :=
            (if x.tmuResult.inGate < 2 then x.tmuResult.missed 1
             else x.tmuResult.sample x.tmu.sampleLimit
               (meanPeriod (x.tmuResult.last - x.tmuResult.first) (x.tmuResult.inGate - 1)) x.tmuResult.gateJoker
               x.tmuResult.gateSuspect).idle }))

/-! ### Calibration -/

/-- R183, R196, R199, R201: the commands of calibration, where no rule refuses them. A request is made for a unit unless one of it is
pending or deferred already, or waits in the queue; one made while the unit calibrates waits there. A pending or deferred request, and one
that waits in the queue, is withdrawn. A write of RemapPosition gives the Joker to a cell for good, or frees it. -/
def Obligations.CalibrationCommandsAct : Prop :=
  ∀ (s : State) (h : Hdr) (i : Fin 16) (u : Fin 136) (r : RegionIx) (b : BlockIx) (w : Data),
    let d := s.dev
    let k := unitBlock u
    let p := unitPlace u
    let x := d.blocks[b]
    let act := (d.cal k p).activity
    let queued := ∃ q ∈ d.blocks[k].queue, q.unit = p
    MayWrite d h i →
    (d.dieOff (blockRegion k) = false →
      (act ≠ .pending → act ≠ .deferred → act ≠ .idle → ¬queued → Accepts (.calibrate h u) s h i fun d =>
        d.onBlock k fun x => { x with queue := x.queue ++ [{ unit := p, byCommand := true }] }) ∧
      (act = .idle → Accepts (.calibrate h u) s h i fun d =>
        (d.onCal k p fun u => { u with activity := .pending, byCommand := true, deferredOnce := false }).onBlock k fun x =>
          { x with queue := x.queue ++ [{ unit := p, byCommand := true }] }) ∧
      (act = .pending ∨ act = .deferred ∨ (act ≠ .idle ∧ queued) → Accepts (.calibrate h u) s h i id) ∧
      (act = .pending ∨ act = .deferred → Accepts (.cancel h u) s h i fun d =>
        (d.onCal k p fun u => { u with activity := .idle, noJoker := false, deferredOnce := false }).onBlock k fun x =>
          { x with queue := x.queue.filter fun q => q.unit ≠ p }) ∧
      (act ≠ .pending → act ≠ .deferred → Accepts (.cancel h u) s h i fun d =>
        d.onBlock k fun x => { x with queue := x.queue.filter fun q => q.unit ≠ p })) ∧
    Accepts (.requestAll h r) s h i (fun d =>
      (blocksOf r).foldl (fun d b => places.foldl (fun d p => d.requestCal b p true) d) d) ∧
    Accepts (.cancelPending h r) s h i (fun d => (blocksOf r).foldl (fun d b => places.foldl (fun d p => d.cancelCal b p) d) d) ∧
    (d.dieOff (blockRegion b) = false → w.len = 1 → d.regions[blockRegion b].busyMode = false →
      (w.val < 16 → x.role = .idle → x.remapPosition = 0xFF → d.cells[blockCell b w.val].path.state ≠ .switching →
        Accepts (.remapPositionWrite h b w) s h i fun d =>
          (d.onBlock b fun x => { x with remapPosition := w.val, role := .remapped, position := some w.val, lastBall := w.val }).onCell
            (blockCell b w.val) fun c =>
              let c := { c with path := { c.path with remapped := true } }
              if c.path.state = .isolated then c else { c.closeJoker with cal := c.cal.leave }) ∧
      (w.val = 0xFF → x.remapPosition < 16 → Accepts (.remapPositionWrite h b w) s h i fun d =>
        ((d.keepJoker b).onCell (blockCell b x.remapPosition) fun c =>
          { c.openAll with path := { c.openAll.path with remapped := false } }).onBlock b fun x =>
            { x with remapPosition := 0xFF, role := .idle, position := none, jokerCal := x.jokerCal.leave }))

/-- R184 to R190, R195: the start of a queued request and the swap of a cell and the Joker of its block: the first request in the
order of service starts directly or by a preload, or is passed when it must wait or lacks a Joker; the preload ends; the swap-in
and the swap-back each begin at a quiet point, and the bridge of each ends when its switches have moved; a search for a quiet
point that lasts too long defers the request or is noted; a deferred request goes back into the queue. R174, R176, R179, R191, R192, R394:
a pass of a unit that calibrates: pass A is kept; a pass B that agrees with it is accepted: the unit is Valid with the mean of both, its
trims stay while the block is in RefFault and its selections while the unit is on the ball, the causes of the block follow, and what waits
for the unit goes on; one that does not is repeated up to three times and then rejected, which raises the cause of a Suspect unit. -/
def Obligations.SwapsAndPassesAct : Prop :=
  (∀ (s : State) (b : BlockIx) (q : CalRequest) (l : List CalRequest) (p : Nat) (c : CellIx) (u : Fin 136),
    let d := s.dev
    let x := d.cells[blockCell b p]
    let toQueue := fun (d : Device) (b : BlockIx) (p : Nat) =>
      (d.onCal b p fun u => { u with activity := .pending }).onBlock b fun x =>
        { x with queue := if d.calQueued b p then x.queue else x.queue ++ [{ unit := p, byCommand := (d.cal b p).byCommand }] }
    (d.blocks[b].active = none → d.shed.stage = 0 → d.regions[blockRegion b].mode.active = true → d.calOrder b = q :: l →
      Gives (.calRequestStart b) s ((match d.calStart b q with
        | .direct => d.beginCal b q false
        | .swap => d.beginCal b q true
        | .waits => d.serveCal b l
        | .noJoker => (d.onCal b q.unit CalUnit.lackJoker).serveCal b l).fullEnd (blockRegion b))) ∧
    (d.blocks[b].role = .preloading → d.blocks[b].position = some p →
      Gives (.preloadComplete b) s ((d.onCal b p fun u => { u with activity := .tracking }).onBlock b fun x =>
        { x with role := .tracking })) ∧
    (d.blocks[b].role = .tracking → d.blocks[b].position = some p → x.cal.activity = .tracking →
      x.path.state = .digital ∨ x.path.state = .digitalLoad ∨ x.path.state = .parametric → x.dds.enable = false →
      d.shed.stage = 0 → d.quiet (blockCell b p) = true →
      Gives (.swapIn b) s ((d.onBlock b fun k => { k with jokerCal := k.jokerCal.takeOver x.cal }).onCell (blockCell b p) fun x =>
        { x.handOver with path := { x.path with beforeSwap := x.path.state, state := .bridge, swJoker := true, substituted := true
                                                step := some .bridgeIn } }.closeIncoming.blankWrite)) ∧
    (d.blocks[b].position = some p → x.cal.activity = .awaitSwapBack → x.path.state = .joker → x.path.substituted = true →
      d.quiet (blockCell b p) = true →
      Gives (.swapBack b) s (d.onCell (blockCell b p) fun x =>
        { (if x.path.beforeSwap = PathState.parametric then x.presetStage.connectStage else x) with
            path := { x.path with state := .bridge, step := some .bridgeOut
                                  swDigital := decide (x.path.beforeSwap ≠ PathState.parametric)
                                  swPmu := decide (x.path.beforeSwap ≠ PathState.digital) }
            cal := x.cal.takeOver d.blocks[b].jokerCal }.closeIncoming.blankWrite)) ∧
    (d.cells[c].path.step = some .bridgeIn →
      Gives (.switchSensed c) s (
        ((d.bridgeInEnd c).onCell c fun x => x.dequeue (2 ≤ (d.bridgeInEnd c).shed.stage)).fullEnd (cellRegion c))) ∧
    (d.cells[c].path.step = some .bridgeOut →
      Gives (.switchSensed c) s (
        ((d.bridgeOutEnd c).onCell c fun x => x.dequeue (2 ≤ (d.bridgeOutEnd c).shed.stage)).fullEnd (cellRegion c))) ∧
    (d.blocks[b].position = some p → (d.cal b p).activity = .tracking → d.blocks[b].role = .tracking → x.path.state ≠ .bridge →
      let e := (d.keepJoker b).onBlock b fun x => { x.freeJoker with active := none }
      (x.dds.enable = false → Gives (.quietTimeout b) s (e.onCal b p fun u =>
        { u with activity := .deferred, deferrals := u.deferrals + 1 })) ∧
      (x.dds.enable = true → Gives (.quietTimeout b) s ((e.onCal b p fun u => { u with activity := .pending }).onBlock b fun k =>
        { k with queue := if e.calQueued b p then e.blocks[b].queue
                          else { unit := p, byCommand := x.cal.byCommand } :: e.blocks[b].queue }))) ∧
    (d.blocks[b].position = some p → (d.cal b p).activity = .awaitSwapBack →
      Gives (.quietTimeout b) s (d.onCal b p fun u => { u with swapBackLate := true })) ∧
    ((d.cal (unitBlock u) (unitPlace u)).activity = .deferred →
      Gives (.deferRetryExpiry u) s (toQueue d (unitBlock u) (unitPlace u)))) ∧
  (∀ (s : State) (u : Fin 136) (m a : Measure),
    let d := s.dev
    let b := unitBlock u
    let p := unitPlace u
    let x := d.cal b p
    x.activity = .calibrating →
    (x.passA = none → Gives (.calPassComplete u m) s (d.onCal b p fun u => { u with passA := some m })) ∧
    (x.passA = some a → agrees a m = true →
      let e := (d.correct b p fun u => u.accept a m (ballOffset b p) (d.walks b p) (d.onBall b p) d.blocks[b].refFault d.now
        d.disciplined).newTaps b p
      let f := (e.setCause (.block b) 2 (e.anySuspect b)).setCause (.block b) 1 (e.anyExcursion b)
      Gives (.calPassComplete u m) s ((f.calDone b p false).fullEnd (blockRegion b))) ∧
    (x.passA = some a → agrees a m = false → x.repeats < 3 →
      Gives (.calPassComplete u m) s (d.onCal b p fun u =>
        { u with passA := none, repeats := u.repeats + 1, retries := u.retries + 1 })) ∧
    (x.passA = some a → agrees a m = false → 3 ≤ x.repeats →
      let e := d.onCal b p fun u => u.reject (unitNumber b p)
      Gives (.calPassComplete u m) s (
        (((e.entryFor (.block b) 2).setCause (.block b) 2 true).calDone b p true).fullEnd (blockRegion b)))) ∧
  (∀ (u : CalUnit) (a m : Measure) (offset : Int) (walks onBall fault : Bool) (now : Nat) (disciplined : Bool),
    let v := u.accept a m offset walks onBall fault now disciplined
    v.state = .valid ∧ v.calCount = u.calCount + 1 ∧ v.lastTime = now ∧ v.lastTemp = u.temp ∧ v.rejections = u.rejections ∧
    v.drive.target = roundEven (a.drive + m.drive) 2 + offset ∧ v.drive.accepted = v.drive.target ∧
    v.compare.target = roundEven (a.compare + m.compare) 2 + offset ∧ v.compare.accepted = v.compare.target ∧
    (walks = true → v.drive.applied = u.drive.applied) ∧ (walks = false → v.drive.applied = v.drive.target) ∧
    (fault = true → v.trims = u.trims) ∧ (onBall = true → v.elements = u.elements ∧ v.dacTaps = u.dacTaps) ∧
    (v.deskew = u.deskew))

/-- R181: a gradual step moves every correction of a unit that is on a ball in Run by one towards its target, puts that of every
other unit of the region at its target, and changes no correction of the other region, nothing outside the cells and blocks, and no cell of
the other region (R182: the events of vectors that have not started move with it, and a comparator whose trims moved looks again). R177,
R179, R194: a visit of background calibration notes REFV, raises the fault where it is more than 12.5 mV from 2.5 V, counts a cycle after
the Joker, and hands a unit that does not calibrate what it measured; a target that moved too far asks for a calibration. When the readings
have stayed within 10 mV for 1 s, RefFault and its cause go; before, nothing changes. -/
def Obligations.CorrectionsStepAndVisitsAct : Prop :=
  (∀ (s : State) (r : RegionIx), Reaches (.gradualStep r) s fun d =>
    (∀ c : CellIx, d.cells[c].cal = if cellRegion c = r then
      s.dev.cells[c].cal.step (s.dev.walks (cellBlock c) (cellPos c)) else s.dev.cells[c].cal) ∧
    (∀ c : CellIx, cellRegion c ≠ r → d.cells[c] = s.dev.cells[c]) ∧
    (∀ b : BlockIx, d.blocks[b] = if blockRegion b = r then
      { s.dev.blocks[b] with jokerCal := s.dev.blocks[b].jokerCal.step (s.dev.walks b 16) } else s.dev.blocks[b]) ∧
    (∀ w : Walk, w.step.target = w.target ∧ w.step.accepted = w.accepted ∧
      (w.applied < w.target → w.step.applied = w.applied + 1) ∧ (w.target < w.applied → w.step.applied = w.applied - 1) ∧
      (w.applied = w.target → w.step.applied = w.applied)) ∧
    d = { s.dev with cells := d.cells, blocks := d.blocks, free := d.free }) ∧
  (∀ (s : State) (b : BlockIx) (refv drive compare : Int) (levels : List Int) (hits : List Nat),
    let d := s.dev
    let p := d.blocks[b].visit
    let off := (refv - 2500000).natAbs
    let e := d.onBlock b fun x =>
      { x with refvReading := refv, refFault := x.refFault || decide (12500 < off), visit := (p + 1) % 17
               refOff := if 10000 < off then d.time else x.refOff
               cycleCount := if p = 16 then x.cycleCount + 1 else x.cycleCount }
    let e := if 12500 < off then e.setCause (.block b) 0 true else e
    (d.regions[blockRegion b].mode.active = true → d.shed.stage = 0 → d.regions[blockRegion b].calPolicy.background = true →
      ((e.cal b p).activity.working = true → Gives (.backgroundVisit b refv drive compare levels hits) s e) ∧
      ((e.cal b p).activity.working = false →
        let f := e.correct b p fun u => u.visit drive compare levels hits e.blocks[b].refFault (e.walks b p)
        let f := if hitsOk 262144 hits then f.newTaps b p else f
        Gives (.backgroundVisit b refv drive compare levels hits) s (
          if (f.cal b p).movedFar then f.requestCal b p false else f))) ∧
    (let steady := (d.blocks[b].refvReading - 2500000).natAbs ≤ 10000 ∧ d.blocks[b].refOff + 3276800000000 ≤ d.time
     (steady → Gives (.refFaultClear b) s ((d.onBlock b fun x => { x with refFault := false }).setCause (.block b) 0 false)) ∧
     (¬steady → Gives (.refFaultClear b) s d))) ∧
  (∀ (u : CalUnit) (drive compare : Int) (levels : List Int) (hits : List Nat) (fault walks : Bool),
    let v := u.visit drive compare levels hits fault walks
    v.drive.target = u.drive.accepted + drive ∧ v.drive.accepted = u.drive.accepted ∧
    v.compare.target = u.compare.accepted + compare ∧ (fault = true → v.trims = u.trims) ∧
    (hitsOk 262144 hits = false → v.taps = u.taps) ∧ v.state = u.state ∧ v.calCount = u.calCount)

/-! ### The PMU, the block ADC and the DDS -/

/-- R209 to R212, R216, R218, R221, R225, R228, R229: the writes of a cell's PMU where no rule refuses them. A setting is stored
whole and reaches the DACs, and a range that reaches the ball goes over the range bridge; Measure queues a measurement,
AbortMeasure ends it, Restore gives the cell its settings back, ClearFlags clears the two flags, ClearValues wait for the next
clear; a route is switched on or off, and its Amplitude stored. -/
def Obligations.PmuWritesAct : Prop :=
  ∀ (s : State) (h : Hdr) (i : Fin 16) (c : CellIx) (sub : Nat) (w : Data),
    let d := s.dev
    let x := d.cells[c]
    let p := x.pmu.put sub w.val
    let only := fun (i' : Instr) (f : Cell → Cell) => Accepts i' s h i fun d => d.onCell c fun x => (f x).blankWrite
    MayWrite d h i → d.dieOff (cellRegion c) = false →
    (d.regions[cellRegion c].mode ≠ .calibrate → x.pmuStatus.transitional = false →
      (1 ≤ sub → sub ≤ 15 → w.len = pmuLen sub → firstRefusal (pmuValue sub w.val p :: p.combos x.dds) = none →
        (sub = 1 → p.mode ≠ x.pmu.mode → x.path.swPmu = false ∧ x.paramRole = false ∧ x.loadRole = false ∧ x.moving = false ∧
          x.dds.enable = false) →
        Accepts (.pmuConfigWrite h c sub w) s h i fun d =>
          let e := (d.onCell c fun x => x.storePmu sub p).noQuiet c
          if sub = 4 then e.changeRange c w.val else e) ∧
      (x.pmu.waggle = false → x.meas.state ≠ .settling → x.meas.state ≠ .converting → x.meas.state ≠ .queued → x.pmu.mode ≠ .off →
        x.senses = true ∨ x.moving = true →
        only (.measure h c) fun x =>
          ({ x with meas := { x.meas with state := .queued, triggerIgnored := false, sum := 0, count := 0, least := 0, greatest := 0
                                          runRestarted := false, runJoker := false, runOver := false, runShort := false
                                          runClamp := false } }).dequeue (2 ≤ d.shed.stage)) ∧
      (d.modes.clrN = true → d.folded c = false → only (.restore h c) Cell.restore) ∧
      (x.pmuStatus.shortNow = false → x.pmuStatus.kelvinNow = false →
        only (.clearFlags h c) fun x =>
          { x with pmuStatus := { x.pmuStatus with shortCircuit := false, kelvinOpen := false } }) ∧
      (w.len = 40 → firstRefusal (ClearValues.ofNat w.val).checks = none →
        Accepts (.clearValuesWrite h c w) s h i fun d =>
          (d.onCell c fun x => ({ x with pmu := { x.pmu with clear := ClearValues.ofNat w.val } }).blankWrite).noQuiet c)) ∧
    (d.regions[cellRegion c].mode ≠ .calibrate →
      only (.abortMeasure h c) fun x => { x with meas := { x.meas with state := .aborted } }) ∧
    (w.len = 1 → w.val = 1 → x.pmu.mode = .forceVoltage → -2000000 ≤ x.pmu.forceVoltage - x.dds.amplitude →
      x.pmu.forceVoltage + x.dds.amplitude ≤ 7000000 →
      Accepts (.ddsRouteEnableWrite h c w) s h i fun d => d.onCell c fun x => { x with dds := { x.dds with enable := true } }) ∧
    (w.len = 1 → w.val = 0 →
      Accepts (.ddsRouteEnableWrite h c w) s h i fun d => d.onCell c fun x =>
        ({ x with dds := { x.dds with enable := false } }).ddsZero) ∧
    (w.len = 4 → w.val ≤ 4500000 → x.dds.enable = false →
      Accepts (.amplitudeWrite h c w) s h i fun d => d.onCell c fun x =>
        { x with dds := { x.dds with
            amplitude := w.val
            applied := if d.blocks[cellBlock c].ddsState ≠ .running ∨ d.blocks[cellBlock c].ddsFreq = 0 then w.val
              else x.dds.applied } })

/-- R205 to R207, R214, R215, R223: the events of the PMU. A settling time ends; a conversion slot serves the cell whose turn it
is, which sums the code and forms its result after the last one, or counts for a calibration; a short, a clamp and a Kelvin
difference come and go; CLR_N brings the clear values to every cell and Joker of a powered die, whose comparators look again, and lets them
go. R215: a measurement sums
the codes of its conversions and keeps the least and the greatest, and after as many as Samples asks for it is done, with the mean
of them as its result, rounded half to even. -/
def Obligations.PmuMeasures : Prop :=
  (∀ (s : State) (c : CellIx) (b : BlockIx) (code p : Nat),
    let d := s.dev
    let x := d.cells[c]
    let flags := fun (f : PmuStatus → PmuStatus) => d.onCell c fun x => { x with pmuStatus := f x.pmuStatus }
    (x.meas.state = .settling →
      Gives (.settleExpiry c) s (d.onCell c fun x => { x with meas := { x.meas with state := .converting } })) ∧
    (roundRobin d.blocks[b].lastServed (d.converting b) = some p →
      let e := (d.onCell (blockCell b p) fun x => x.convert (code % 262144) d.now d.disciplined).onBlock b fun x =>
        { x with pmuConversions := x.pmuConversions + 1, lastServed := p }
      Gives (.adcConversionSlot b code) s (
        if e.cells[blockCell b p].meas.state = .done then e.sourceEvent (0x18 + b.val) (regionDomain (blockRegion b)) else e)) ∧
    (d.converting b = [] → d.calibrating b = true → d.blocks[b].readbackDue = false →
      Gives (.adcConversionSlot b code) s (d.onBlock b fun x => { x with calConversions := x.calConversions + 1 })) ∧
    (x.pmuForces = true →
      Gives (.pmuShort c) s ((flags fun q => { q with shortNow := true, shortCircuit := true }).setCause (.cell c) 2 true) ∧
      (x.pmuStatus.clampActive = false →
        Gives (.clampActiveOnset c) s (
          let e := flags fun q => { q with clampActive := true }
          if x.pmu.clampAlarm then e.raise (.cell c) 4 else e)) ∧
      (x.pmu.kelvin = true →
        Gives (.kelvinOpen c) s (
          (flags fun q => { q with kelvinNow := true, kelvinOpen := true, forceNode := true }).setCause (.cell c) 3 true))) ∧
    Gives (.pmuShortRelease c) s ((flags fun q => { q with shortNow := false }).setCause (.cell c) 2 false) ∧
    Gives (.clampActiveEnd c) s (flags fun q => { q with clampActive := false }) ∧
    Gives (.kelvinDifferenceCleared c) s ((flags fun q => { q with kelvinNow := false }).setCause (.cell c) 3 false) ∧
    (d.modes.clrN = true →
      Gives .clrNFall s (
        let on := fun (i : Nat) => if i / 64 = 0 then d.regions[0].die ≠ .unpowered else d.regions[1].die ≠ .unpowered
        let e := { d with modes := { d.modes with clrN := false } }
        let e := e.onCells (fun i => decide (on i)) fun x => { x.applyClear with meas := x.meas.abort }
        let e := { e with blocks := vmap (fun i (x : Block) => if on (16 * i) then { x with jokerDacs := x.jokerClear.dacs } else x) e.blocks }
        let e := ((List.finRange 128).filter fun c => on c.val).foldl Device.lookAgain e
        (e.entryFor .chip 2).raise .chip 2)) ∧
    Gives .clrNRise s { d with modes := { d.modes with clrN := true } }) ∧
  (∀ (x : Cell) (code now : Nat) (disc : Bool),
    let y := x.convert code now disc
    let m := x.meas
    y.meas.sum = m.sum + code ∧ y.meas.count = m.count + 1 ∧
    (m.count + 1 < x.pmu.samples → y.meas.state = m.state ∧ y.meas.value = m.value ∧ y.meas.sequence = m.sequence) ∧
    (x.pmu.samples ≤ m.count + 1 → y.meas.state = .done ∧ y.meas.sequence = m.sequence + 1 ∧ y.meas.taken = m.count + 1 ∧
      y.meas.time = now ∧ y.meas.disciplined = disc ∧ y.meas.current = x.pmu.current ∧
      (x.pmu.current = false →
        y.meas.value = roundEven (((m.sum + code : Nat) - 65536 * (m.count + 1) : Int) * 10000000) (262144 * (m.count + 1))) ∧
      (x.pmu.current = true →
        y.meas.value = roundEven (((m.sum + code : Nat) - 131072 * (m.count + 1) : Int) * (5 * fullScale x.pmuStatus.stageRange))
          (524288 * (m.count + 1)))) ∧
    y = { x with meas := y.meas })

/-- R226, R229: DdsConfig.Command: Start sets the phase to 0 and runs at the next update, or arms; Stop, Freeze and Resume; and an
update of the DDS brings the commanded state into force, advances the phase in Running by FrequencyWord, and drives the routes. -/
def Obligations.DdsActs : Prop :=
  ∀ (s : State) (h : Hdr) (i : Fin 16) (b : BlockIx),
    let d := s.dev
    let x := d.blocks[b]
    let st := x.ddsNext.getD x.ddsState
    let new := if x.ddsState = .running ∧ st = .running then x.ddsPhase + BitVec.ofNat 32 x.ddsFreq else x.ddsPhase
    let e := d.onBlock b fun x => { x with ddsState := st, ddsNext := none, ddsPhase := new }
    (MayWrite d h i → d.dieOff (blockRegion b) = false →
      (x.ddsState ≠ .armed → x.ddsState ≠ .running →
        Accepts (.ddsStart h b) s h i fun d => d.onBlock b fun x =>
          if x.ddsStart = 0 then { x with ddsPhase := 0, ddsNext := some .running, ddsByShed := false }
          else { x with ddsPhase := 0, ddsState := .armed, ddsByShed := false }) ∧
      Accepts (.ddsStop h b) s h i (fun d => d.onBlock b Block.stopDds) ∧
      Accepts (.ddsFreeze h b) s h i (fun d => d.onBlock b fun x =>
        { x with ddsState := .frozen, ddsNext := none, ddsByShed := false }) ∧
      Accepts (.ddsResume h b) s h i (fun d => d.onBlock b fun x => { x with ddsNext := some .running, ddsByShed := false })) ∧
    (st = .running → Gives (.ddsUpdate b) s (e.onCells (inBlock b) fun x => x.ddsUpdate true s.dev.blocks[b].ddsPhase new)) ∧
    (st = .stopped → Gives (.ddsUpdate b) s (e.onCells (inBlock b) Cell.ddsZero)) ∧
    (st = .frozen ∨ st = .armed → Gives (.ddsUpdate b) s e)

/-! ### The Sentinels -/

/-- R231 to R237: the events of a Sentinel. A tick powers the sampled comparators of a region, which see what lies at their inputs; a sample
goes through the filter, and an onset or an end of the alarm is recorded; a crossing moves comparators that have power, and is else only
the new voltage at the input; and a trip that the class Unsettled caused is decided as soon as the class is. For a Sentinel whose die has power. R236, R237, R240: a trip of a Sentinel sets Tripped with its cause and
counts it, turns off the driver of its cell, or every driver of the die for a rail, is logged, and raises its source; AutoRelease
releases an Alarm trip once the alarm has gone, and drivers are freed once no trip of the die holds them. -/
def Obligations.SentinelsWatch : Prop :=
  (∀ (s : State) (m : MonId) (uv : Int) (r : RegionIx),
    let d := s.dev
    let x := d.mon m
    let y := (if d.tripPath m then x else x.see m uv).sample
    let e := (d.onMon m fun _ => y).settleTrip m
    let seen := d.onMon m fun s => s.see m uv
    (d.dieOff r = false → Reaches (.sentinelTick r) s fun e =>
      (∀ k, e.mon k = if monRegion k = r ∧ (d.mon k).monitors = true then { (d.mon k).see k (d.mon k).input with powered := true }
        else d.mon k) ∧
      e.regions[r].sentTiming = { d.regions[r].sentTiming with count := d.regions[r].sentTiming.count + 1 } ∧
      (∀ k, k ≠ r → e.regions[k] = d.regions[k]) ∧
      (∀ c : CellIx, e.cells[c] = { d.cells[c] with sentinel := e.cells[c].sentinel }) ∧
      e.regions[r] = { d.regions[r] with rails := e.regions[r].rails, sentTiming := e.regions[r].sentTiming } ∧
      e = { d with cells := e.cells, regions := e.regions }) ∧
    (x.powered = true → x.monitors = true → d.monOn m = true →
      (x.output ≠ .alarm → y.output = .alarm → Gives (.sentinelSample m uv) s (e.onset m)) ∧
      (x.output = .alarm → y.output = .clear → Gives (.sentinelSample m uv) s (e.monEnd m)) ∧
      ((x.output = .alarm ↔ y.output = .alarm) → Gives (.sentinelSample m uv) s e)) ∧
    Gives (.blankTimeExpiry m) s (d.onMon m fun s => { s with blanking := false }) ∧
    (d.monAwake m = true → Gives (.sentinelCrossing m uv) s (seen.settleTrip m)) ∧
    (d.monAwake m = false → Gives (.sentinelCrossing m uv) s (d.onMon m fun s => { s with input := uv })) ∧
    (d.tripPath m = true → d.monOn m = true →
      (x.tripped = false → Gives (.sentinelCrossing m uv) s seen) ∧
      (x.tripped = true → x.cause = .unsettled → (x.see m uv).alarm = some true →
        Gives (.sentinelCrossing m uv) s (seen.onMon m fun s => { s with cause := .alarm })) ∧
      (x.tripped = true → x.cause = .unsettled → (x.see m uv).alarm = some false →
        Gives (.sentinelCrossing m uv) s (seen.release m)))) ∧
  (∀ (s : State) (m : MonId) (c : CellIx) (r : RegionIx) (k : Fin 4) (cause : TripCause),
    let d := s.dev
    let x := d.mon m
    let e := d.onMon m fun s => { s with tripped := true, cause := cause, trips := satAdd (maxU 32) s.trips 1 }
    let f := d.onMon m fun s => { s with tripped := false }
    let running := d.regions[monRegion m].run.inProgress
    d.tripPath m = true → d.monOn m = true →
    (x.tripped = false → (x.alarm = none ∧ cause = .unsettled) ∨ (x.alarm = some true ∧ cause = .alarm) →
      (m = .cell c → Gives (.sentinelTrip m) s (
        ((e.onCell c fun x => { x with path := { x.path with driver := .off } }).entryFor (.cell c) 1).setCause (.cell c) 1 true)) ∧
      (m = .rail r k → Gives (.sentinelTrip m) s (
        ((e.onCells (inRegion r) fun x => { x with railTrip := true, path := { x.path with driver := .off } }).entryFor
          (.region r) 12).setCause (.region r) 12 true))) ∧
    (x.tripped = true → x.cause = .alarm → x.cfg.autoRelease = true → x.alarm = some false →
      (m = .cell c → Gives (.releaseTimeExpiry m) s ((f.onCell c fun x => x.freed running).setCause (.cell c) 1 false)) ∧
      (m = .rail r k → f.regions[r].railTripped = true → Gives (.releaseTimeExpiry m) s f) ∧
      (m = .rail r k → f.regions[r].railTripped = false →
        Gives (.releaseTimeExpiry m) s (
          (f.onCells (inRegion r) fun x => ({ x with railTrip := false }).freed running).setCause (.region r) 12 false))))

/-- R237, R238, R242, R243: the writes of a Sentinel where no rule refuses them, accepted in every mode of the region, and the
readback of one threshold by the block ADC, which counts, stores the reading and judges it, and which waits for a conversion slot while a
PMU measurement of the block is Converting (R214). -/
def Obligations.SentinelWritesAct : Prop :=
  ∀ (s : State) (h : Hdr) (i : Fin 16) (m : MonId) (sub : Nat) (w : Data) (b : BlockIx) (code j : Nat) (high : Bool),
    let d := s.dev
    let x := d.mon m
    let k := x.cfg.put sub w.val
    let v := readbackUv m (code % 262144)
    let off := decide (3 * monSpan m < (v - (if high then x.cfg.high else x.cfg.low)).natAbs * 1023)
    let due := d.modes.clocks = true ∧ d.dieOff (blockRegion b) = false ∧
      ((d.readbackList b).find? fun q => decide (d.blocks[b].readbackNext ≤ q.1)).or (d.readbackList b).head? = some (j, m, high)
    let e := (d.onBlock b fun q =>
      { q with readbackDue := false, readbackConversions := q.readbackConversions + 1, readbackNext := j + 1 }).onMon m fun s =>
        if high then { s with readbackHigh := v, faultHigh := off } else { s with readbackLow := v, faultLow := off }
    let e := e.setCause (.block b) 3 (e.anyReadback b)
    let e := if off ∧ x.protects then e.trip m .readbackFault else e
    (MayWrite d h i → d.dieOff (monRegion m) = false →
      (d.monAlarm m = some false → x.cause ≠ .readbackFault ∨ (x.faultLow = false ∧ x.faultHigh = false) →
        Accepts (.releaseTrip h m) s h i fun d => if x.tripped then d.release m else d) ∧
      Accepts (.sentinelClearCounts h m) s h i (fun d => d.onMon m fun s => { s with onsets := 0, trips := 0 }) ∧
      (1 ≤ sub → sub ≤ 9 → w.len = (if sub = 2 ∨ sub = 3 ∨ sub = 7 ∨ sub = 8 ∨ sub = 9 then 4 else 1) →
        (sentValue m sub w.val k).1 = false → 1000 * k.hyst + monStep m ≤ k.high - k.low →
        Accepts (.sentinelConfigWrite h m sub w) s h i fun d =>
          (d.onMon m fun s => s.store m sub k d.regions[monRegion m].mode.active).settleTrip m)) ∧
    (due → d.converting b = [] → Gives (.sentinelReadback b code) s e ∧
      (d.blocks[b].readbackDue = true → Gives (.adcConversionSlot b code) s e)) ∧
    (due → d.converting b ≠ [] → Gives (.sentinelReadback b code) s (d.onBlock b fun x => { x with readbackDue := true }))

/-! ### DRAM -/

/-- R256, R257, R262, R264, R267: a channel's slot. It is given to no one on a channel out of service, and to a prefetch read that holds a
token before all others. A granted prefetch read brings its vectors to the ring, checked; a granted read of a
ReadBlock stages its bytes, or ends the transfer with a data integrity failure; a granted write reaches the devices and leaves the
queue. For a region that is not in Fold. -/
def Obligations.DramSlotsServeRequests : Prop :=
  ∀ (s : State) (n : DramIx) (e1 e2 : ErrPat) (i : Fin 16) (a : Nat) (t : Transfer) (w : DramWrite),
    let d := s.dev
    let r := dramRegion n
    d.regions[r].mode ≠ .fold →
    (d.burstSlot n = .readP →
      let f := (d.onMem r fun m => { m with regP := m.regP.spend }).readBurst r ((d.wantsP n).headD 0 / 2) e1 e2 true true
      Gives (.dramReadComplete n e1 e2) s (f.1.onRegion r fun x =>
        if x.run.fetching then { x with fetch := Prefetch.fetched (f.1.prog r) x.fetch (entriesOf (d.wantsP n) f.2) } else x)) ∧
    (d.burstSlot n = .readH i → d.readAt i = some (r, a) → d.link.sessions[i].transfer = some t →
      let f := (d.onMem r fun m => { m with regH := m.regH.spend }).readBurst r (a / 64) e1 e2 true true
      (f.2.step = 0 → Gives (.dramReadComplete n e1 e2) s (f.1.onSession i fun x =>
        { x with transfer := x.transfer.map fun u =>
            { u with staged := u.staged ++ burstBytes f.2.data (a % 64) (min (64 - a % 64) t.lacks)
                     behind := f.1.regions[r].dram.writes.length } })) ∧
      (f.2.step ≠ 0 → Gives (.dramReadComplete n e1 e2) s (
        (f.1.respond i t.ret (.error { code := 6, reason := 2 } t.idx 0)).endTransfer i))) ∧
    (d.burstSlot n = .writeH w →
      let e := if 48 ≤ d.queued n then d.onDram n fun c => { c with draining := true } else d
      Gives (.dramWriteComplete n e1 e2) s ((e.writeBurst r w e1 e2).writeDone n)) ∧
    (d.chanOpen n = false → d.burstSlot n = .none) ∧
    (d.burstSlot n = .readP → d.wantsP n ≠ [] ∧ (0 < d.regions[r].dram.regP.tokens ∨ d.regions[r].dram.regP.borrow = true)) ∧
    (d.burstSlot n = .readH i → d.wantsH n = some i) ∧
    (d.chanOpen n = true → d.wantsP n ≠ [] → 0 < d.regions[r].dram.regP.tokens → d.burstSlot n = .readP)

/-- R254 to R257: a region burst that is written whole reads back as it was written, with its tag and no codeword corrected, while
its epoch lasts; and every other burst of the region reads as before, under the errors that strike it. -/
def Obligations.BurstsReadBackAsWritten : Prop :=
  ∀ (d : Device) (r : RegionIx) (g c q : Nat) (data : BitVec 512),
    d.regions[r].dram.place g = some (c, q) → q < 2 ^ 30 → d.regions[r].dram.epoch < 2 ^ 16 →
    let e := d.storeBurst r g data.toNat
    e.regions[r].dram.readOnce r g noErrors = { data := data.toNat, corrected := 0, step := 0, tagOk := true } ∧
    ∀ k p, k ≠ g → e.regions[r].dram.readOnce r k p = d.regions[r].dram.readOnce r k p

/-- R262, R264 to R266, R270, R272: what time does to a channel. A tREFI of a rank is a round of four same-bank refreshes, is
postponed, or makes an all-bank refresh of the fourth postponed round; an idle page closes; an old write queue drains; every port
gains a µs of tokens up to its depth; a folded region's channels sleep again. R270, R271, R277: a command Retrain starts a
training at once or when the region's DRAM is in service again; a training that works is recorded, and a channel out of service
comes back where the region may lay its areas out anew; one that fails is done once more in full and then loses the channel. R269, R270: the
eye of a lane is the widest run of passing settings of its sweep, of all 128 or of those within 16 steps of the present one. -/
def Obligations.DramTimesAndTrainingAct : Prop :=
  (∀ (s : State) (n : DramIx) (i : Fin 4) (bank : Fin 64) (r : RegionIx) (moments : Nat),
    let d := s.dev
    let m := d.regions[dramRegion n].dram
    let c := d.drams[n]
    let sub := placeSub i
    let rank := placeRank i
    let k := d.refreshedIn n sub rank moments
    let counted := fun (c : DramChan) => { c with errors := { c.errors with refreshSame := c.errors.refreshSame + k } }
    (c.state ≠ .absent → rank.val < m.ranks → m.state = .active ∨ m.state = .serviceExit →
      (k = 4 → Gives (.refreshInterval n i moments) s (d.onDram n counted)) ∧
      (k < 4 → c.postponed[i] < 3 →
        Gives (.refreshInterval n i moments) s (d.onDram n fun c =>
          { counted c with postponed := c.postponed.set i (c.postponed[i] + 1) })) ∧
      (k < 4 → 3 ≤ c.postponed[i] →
        Gives (.refreshInterval n i moments) s (d.onDram n fun c =>
          { counted c with errors := { (counted c).errors with refreshAll := c.errors.refreshAll + 1 }
                           openRows := c.openRows.filter fun x => decide (¬(x.1 = sub.val ∧ x.2.1 / m.banks = rank.val))
                           postponed := c.postponed.set i 0 })) ∧
      k ≤ 4 ∧ (k = 4 ↔ ∀ b, b < 4 → moments.testBit b = true ∨ d.bankWanted n sub rank b = false)) ∧
    Gives (.pageIdleTimeout n sub bank) s (d.onDram n fun c =>
      { c with openRows := c.openRows.filter fun x => decide (¬(x.1 = sub.val ∧ x.2.1 = bank.val)) }) ∧
    (d.queued n ≠ 0 → Gives (.writeQueueAge n) s (d.onDram n fun c => { c with draining := true })) ∧
    Gives (.tokenRefill r) s (d.onMem r fun m =>
      let gain := fun (x : Regulator) => { x with tokens := min x.depth (x.tokens + m.rate x) }
      { m with regP := gain m.regP, regT := gain m.regT, regH := gain m.regH, regS := gain m.regS }) ∧
    (d.regions[r].dram.state = .serviceExit → d.regions[r].dram.writes = [] → d.regions[r].tally.level = 0 →
      d.readsWait r = false → Gives (.serviceExitIdle r) s (d.dramSleep r))) ∧
  (∀ (s : State) (h : Hdr) (i : Fin 16) (n : DramIx) (t : TrainResult),
    let d := s.dev
    let r := dramRegion n
    let c := d.drams[n]
    (MayWrite d h i → d.regions[r].mode ≠ .run → d.regions[r].mode ≠ .fold → c.state ≠ .absent → d.shed.stage < 4 →
      Accepts (.retrain h n) s h i fun d => d.onDram n fun c =>
        { c with state := if d.regions[r].dram.state = .active then .training else .retrainPending, full := true }) ∧
    (c.state = .training →
      let x := c.outcome t
      (x.ok = true →
        let e := d.onDram n fun c => c.record x t.temp d.regions[r].dram.activeShadow d.now d.disciplined
        (d.inService n = true → Gives (.retrainComplete n t) s e) ∧
        (d.inService n = false → d.regions[r].mode = .configure ∨ d.regions[r].mode = .ready →
          Gives (.retrainComplete n t) s (e.relayOut r (e.regions[r].dram.inService ||| chanBit n))) ∧
        (d.inService n = false → d.regions[r].mode ≠ .configure → d.regions[r].mode ≠ .ready →
          Gives (.retrainComplete n t) s (e.onDram n fun c => { c with state := .outOfService }))) ∧
      (x.ok = false →
        (d.inService n = false → Gives (.retrainComplete n t) s (d.onDram n fun c =>
          { c with state := .outOfService, lastFailed := true })) ∧
        (d.inService n = true → c.full = false → Gives (.retrainComplete n t) s (d.onDram n fun c =>
          { c with full := true, lastFailed := true })) ∧
        (d.inService n = true → c.full = true →
          let e := d.onDram n fun c => { c with state := .outOfService, openRows := [], lastFailed := true }
          let f := (e.raise (.region r) 9).relayOut r ((e.raise (.region r) 9).regions[r].dram.inService &&& (3 - chanBit n))
          Gives (.retrainComplete n t) s (if d.regions[r].run.inProgress then f.stallFold r else f))))) ∧
  (∀ (m k : Nat),
    let x := widestRun m
    (∀ j, x.1 ≤ j → j < x.1 + x.2 → m.testBit j = true) ∧ x.1 + x.2 ≤ 128 ∧
    (∀ a b, a + b ≤ 128 → (∀ j, a ≤ j → j < a + b → m.testBit j = true) → b ≤ x.2) ∧
    (∀ j, (nearSettings k).testBit j = true ↔ j < 128 ∧ k ≤ j + 16 ∧ j ≤ k + 16))

/-- R273 to R276, R278: the writes of a region's DRAM objects where no rule refuses them, and the end of a frequency change: at
the new rate where both channels work, else back at the former one with the source raised. R99, R268, R280: a LoadFence write over
a mask of regions issues the next fence, which waits for the port-H writes of them that a response has covered; the oldest fence
completes once those writes have, makes their new contents the only ones, has what the ring of a region in Run holds read anew,
and fires its source. -/
def Obligations.DramWritesAndFencesAct : Prop :=
  (∀ (s : State) (h : Hdr) (i : Fin 16) (r : RegionIx) (sub : Nat) (w : Data) (t0 t1 b0 b1 : TrainResult),
    let d := s.dev
    let m := d.regions[r].dram
    (MayWrite d h i →
      (w.len = 1 → w.val < 2 → w.val ≠ m.activeShadow → d.regions[r].busyMode = false → d.regions[r].mode ≠ .fold →
        d.shed.stage < 4 → m.state ≠ .changing → m.state ≠ .absent → shadowBad (m.shadow w.val) m.grade = false →
        Accepts (.shadowSelectWrite h r w) s h i (fun d => d.beginChange r w.val) ∧
        Accepts (.dramConfigWrite h r 0xC w) s h i (fun d => d.beginChange r w.val)) ∧
      (w.len = 1 → w.val = m.activeShadow → w.val < 2 →
        Accepts (.shadowSelectWrite h r w) s h i id ∧ Accepts (.dramConfigWrite h r 0xC w) s h i id) ∧
      (w.len = 64 → sub = 1 ∨ sub = 2 → sub ≠ m.activeShadow + 1 → w.val % 2 ^ 512 = 0 ∨ shadowBad w.val m.grade = false →
        Accepts (.dramShadowWrite h r sub w) s h i fun d => (d.onMem r fun m =>
          if sub = 1 then { m with shadowA := w.val % 2 ^ 512 } else { m with shadowB := w.val % 2 ^ 512 }).onDrams r fun c =>
            if sub = 1 then { c with learntA := none } else { c with learntB := none }) ∧
      (sub = 7 ∨ sub = 8 ∨ sub = 9 → w.len = configLen sub → d.regions[r].mode = .configure →
        firstRefusal (m.configChecks sub w.val) = none →
        Accepts (.dramConfigWrite h r sub w) s h i fun d =>
          if m.putConfig sub w.val = m then d else (d.onMem r fun _ => (m.putConfig sub w.val).nextEpoch).invalidate r) ∧
      (sub = 0xB ∨ sub = 0x11 → w.len = 2 → firstRefusal (m.configChecks sub w.val) = none →
        Accepts (.dramConfigWrite h r sub w) s h i fun d =>
          if m.putConfig sub w.val = m then d else (d.onMem r fun _ => m.putConfig sub w.val).invalidate r) ∧
      (1 ≤ sub → sub ≤ 9 → w.len = (if sub = 9 then 1 else 2) → d.regions[r].busyMode = false →
        firstRefusal (m.regulatorChecks sub w.val) = none →
        Accepts (.portRegulatorWrite h r sub w) s h i fun d =>
          let m' := m.putRegulator sub w.val
          let e := d.onMem r fun _ => m'
          if m'.regP.share ≠ m.regP.share ∨ m'.regP.depth ≠ m.regP.depth ∨ m'.regP.borrow ≠ m.regP.borrow then e.invalidate r
          else e)) ∧
    (m.shadowSelect ≠ m.activeShadow →
      (d.bothWork r m.shadowSelect t0 t1 = true →
        let e := (d.rateTrained (regionDram r 0) m.shadowSelect t0).rateTrained (regionDram r 1) m.shadowSelect t1
        Gives (.frequencyChangeComplete r t0 t1 b0 b1) s (((e.onMem r fun m =>
          { m with activeShadow := m.shadowSelect, dataRate := field (m.shadow m.shadowSelect) 0 16 }).resumeService r).invalidate r)) ∧
      (d.bothWork r m.shadowSelect t0 t1 = false →
        let e := (d.onMem r fun m => { m with shadowSelect := m.activeShadow }).raise (.region r) 10
        Gives (.frequencyChangeComplete r t0 t1 b0 b1) s (
          (((e.rateBack (regionDram r 0) m.activeShadow b0).rateBack (regionDram r 1) m.activeShadow b1).resumeService r).invalidate
            r)) ∧
      (d.bothWork r m.shadowSelect t0 t1 = true ↔ ∀ k t, (k = (0 : Fin 2) ∧ t = t0) ∨ (k = 1 ∧ t = t1) →
        d.inService (regionDram r k) = true →
        match if m.shadowSelect = 0 then d.drams[regionDram r k].learntA else d.drams[regionDram r k].learntB with
        | some x => ∀ j, j < min t.passes.length x.read.length → (t.passes.getD j 0).testBit (x.read.getD j 0) = true
        | none => (trainedBy t none).ok = true))) ∧
  (∀ (s : State) (h : Hdr) (i : Fin 16) (w : Data) (f : Fence) (l : List Fence),
    let d := s.dev
    (MayWrite d h i → w.len = 1 → w.val % 4 ≠ 0 →
      Accepts (.loadFenceRequest h w) s h i fun d =>
        let number := d.fenceIssued + 1
        let f : Fence := { number := number.toNat, regions := w.val % 4
                           waitA := if bitAt (w.val % 4) 0 then d.fenceWait 0 else 0
                           waitB := if bitAt (w.val % 4) 1 then d.fenceWait 1 else 0 }
        let d := (d.retag 0 number.toNat).retag 1 number.toNat
        { d with fenceIssued := number, fences := d.fences ++ [f] }) ∧
    (d.fences = f :: l → f.waitA = 0 → f.waitB = 0 → d.fenceBlocked f = false →
      let e := { d with fences := l, fenceDone := BitVec.ofNat 32 f.number }
      Gives .fenceComplete s (
        ((([0, 1] : List RegionIx).filter fun r => f.regions.testBit r.val).foldl (fun d r => d.fenceRegion f.number r) e).sourceEvent
          0x07 .chip)))

/-! ### Waggle -/

/-- R281, R282, R292: a source event of a channel is no event of a Disabled one; counted by a Suspended one; coalesced with an
earlier one of its FCLK cycle; or a candidate, which changes the channel alone. R282, R283, R287: at the end of its cycle a
candidate is gated, by the level its gate has then; or a firing, which offers itself to every consumer of its mask, 4 FCLK cycles
later within its domain and 6 outside it, with the Keeper time and whether that is PTP-disciplined, or is rate-limited where the last unlimited
firing is less than MinInterval before. A cycle without a candidate and without an unfreeze request of a Tally ends without effect, and one
with a single candidate that no channel is chained to ends with its decision, but that channels being disabled then close. A Command Fire
is one source event of the chip services at the start of the FCLK cycle after its own. -/
def Obligations.SourceEventsBecomeFirings : Prop :=
  (∀ (d : Device) (k : WaggleIx) (dom : Domain),
    let x := d.waggle.chans[k]
    let e := d.chanEvent k dom
    let y := e.waggle.chans[k]
    (d.modes.clocks = false ∨ x.state = .disabled ∨ x.closing = true → e = d) ∧
    (d.modes.clocks = true → x.state = .suspended → x.closing = false →
      e = d.onChan k fun x => { x with suspendedEvents := x.suspendedEvents + 1 }) ∧
    (d.modes.clocks = true → x.state = .enabled → x.closing = false →
      (x.lastEvent = some d.fclk → y.coalesced = x.coalesced + 1 ∧ y.firings = x.firings ∧ y.fired = x.fired ∧
        y.undecided = x.undecided) ∧
      (x.lastEvent ≠ some d.fclk →
        e = d.onChan k fun x => { x with lastEvent := some d.fclk, domain := dom, undecided := true })) ∧
    e = { d with waggle := e.waggle }) ∧
  (∀ (d : Device) (k : WaggleIx),
    let x := d.waggle.chans[k]
    let e := (d.decideOne k).1
    let y := e.waggle.chans[k]
    let n := (maskBits x.consumers).length
    let pass := (d.gateLevel x.gate).xor x.gateInvert
    let limited := ∃ l, x.lastUnlimited = some l ∧ d.fclk < l + x.minInterval
    (pass = false → e = d.onChan k fun x => { x with gated := x.gated + 1, undecided := false }) ∧
    (pass = true → y.undecided = false ∧ y.firings = x.firings + 1 ∧ y.fired = x.fired + n) ∧
    (pass = true → limited → y.overrun = x.overrun + n ∧ y.rateLimited = x.rateLimited + n ∧ e.waggle.offers = d.waggle.offers) ∧
    (pass = true → ¬limited → y.overrun = x.overrun ∧ y.lastUnlimited = some d.fclk ∧
      e.waggle.offers = d.waggle.offers ++ (maskBits x.consumers).map fun c =>
        { chan := k, consumer := c, due := d.fclk + (if consumerDomain c = some x.domain then 4 else 6), time := d.now
          firings := y.firings, disciplined := d.disciplined }) ∧
    e = { d with waggle := e.waggle } ∧
    ((∀ r : RegionIx, d.regions[r].tally.unfreezeDue = false) →
      ((∀ j : WaggleIx, d.waggle.chans[j].undecided = false) → d.endCycle = d.closeChannels) ∧
      ((∀ j : WaggleIx, d.waggle.chans[j].undecided = true ↔ j = k) →
        (∀ j : WaggleIx, d.waggle.chans[j].source ≠ 0x40 + k.val) → d.endCycle = e.closeChannels)) ∧
    ((∀ j : WaggleIx, d.waggle.chans[j].closing = false) → d.closeChannels = d) ∧
    (∀ n, x.fires = n + 1 → d.fireDue k =
      (List.range n).foldl (fun d _ => d.chanEvent k .chip) ((d.onChan k fun x => { x with fires := 0 }).chanEvent k .chip)))

/-- R281, R288, R289, R291 to R296: the commands of a channel where no rule refuses them, the arrival of the offers that reach a
consumer next (where none does in the present FCLK cycle, once the candidates of that cycle are decided), the edges of an EVIO input, and an output's pulse, which a
delivery starts and which ends PulseWidth FCLK cycles after it. R288, R289: the offers that reach a task input in one
cycle settle as one: the first of the lowest channel is delivered, or overruns where the consumer is busy, and every other one
merges and is counted at the consumer; where the consumer's region is off or has no power, each overruns. The offers of other
cycles and consumers stay. -/
def Obligations.WaggleCommandsAndOffersAct : Prop :=
  (∀ (s : State) (h : Hdr) (i : Fin 16) (k c : WaggleIx) (w : Data) (cy : Nat) (n : Fin 8) (level : Bool),
    let d := s.dev
    let x := d.waggle.chans[k]
    (MayWrite d h i →
      (x.guarded = false ∨ x.owner = sessNo i →
        (x.state = .disabled → d.refersOff k = false → d.chainBad k = false →
          Accepts (.enable h k) s h i fun d => d.onChan k fun x => { x.clearCounts with owner := sessNo i, state := .enabled }) ∧
        Accepts (.disable h k) s h i (fun d =>
          (d.onChan k fun x => if x.state = .disabled then x else { x with closing := true, fires := 0 }).closeChannels) ∧
        (x.state = .enabled → Accepts (.fire h k) s h i fun d => d.onChan k fun x => { x with fires := x.fires + 1 }) ∧
        (x.state = .suspended → d.refersOff k = false → d.refersChecking k = false →
          Accepts (.reconfirm h k) s h i fun d => d.onChan k fun x => { x with state := .enabled }) ∧
        (x.state = .disabled → Accepts (.waggleClearCounts h k) s h i fun d => d.onChan k WChan.clearCounts)) ∧
      (d.sec.life = .sealed → d.isSecure i h = true →
        Accepts (.reclaim h k) s h i fun d => d.onChan k fun x => { x with owner := sessNo i }) ∧
      (w.len = 1 → w.val = 1 →
        Accepts (.clearConsumers h w) s h i fun d =>
          { d with waggle := { d.waggle with consumers := Vector.replicate 64 {} } }) ∧
      (w.len = 1 → w.val = 0 → Accepts (.clearConsumers h w) s h i id)) ∧
    (let e := d.awaitArrival c.val
     e.nextArrival c.val = some cy →
      let here := fun (o : Offer) => decide (o.consumer = c.val) && decide (o.due = cy)
      let f := e.advanceTo cy
      let f := { f with waggle := { f.waggle with offers := e.waggle.offers.filter fun o => !here o } }
      Gives (.offerArrival c) s ((f.settle c.val (e.waggle.offers.filter here)).closeChannels)) ∧
    (d.modes.clocks = true → d.waggle.evio[n].level ≠ level → d.waggle.evio[n].config.getLsbD 0 = false →
      let e := d.onEvio n fun x => { x with level := level }
      Gives (.evioEdge n level) s (
        if selects (field d.waggle.evio[n].config.toNat 2 2) level then e.sourceEvent (0x28 + n.val) .chip else e)) ∧
    (d.waggle.evio[n].pulse = true → d.fclk < d.waggle.evio[n].pulseEnd → Reaches (.evioPulseEnd n) s fun e =>
      e.fclk = d.waggle.evio[n].pulseEnd ∧ e.waggle.evio[n].pulse = false ∧
      e.waggle.evio[n].out = d.waggle.evio[n].config.getLsbD 4 ∧ e.waggle.evio[n].config = d.waggle.evio[n].config) ∧
    (d.waggle.evio[n].pulse = false → Gives (.evioPulseEnd n) s d) ∧
    (∀ o, (d.deliver (0x28 + n.val) o).waggle.evio[n] = { d.waggle.evio[n] with
      pulse := true, pulseEnd := d.fclk + d.waggle.evio[n].config.toNat / 256 % 256, out := !d.waggle.evio[n].config.getLsbD 4 })) ∧
  (∀ (d : Device) (c : Nat) (o : Offer) (l : List Offer),
    1 < c → c < 64 → (∀ q ∈ l, o.chan.val ≤ q.chan.val) →
    let off := ∃ r, consumerRegion c = some r ∧ (d.regions[r].mode = .off ∨ d.dieOff r = true)
    (off → d.settle c (o :: l) = (o :: l).foldl (fun d q => d.onChan q.chan fun x => { x with overrun := x.overrun + 1 }) d) ∧
    (¬off →
      let e := l.foldl (fun d q => d.onChan q.chan fun x => { x with merged := x.merged + 1 }) d
      let e := if l = [] then e else e.onConsumer c fun x =>
        { x with merged := satAdd (maxU 32) x.merged l.length, lastSource := o.chan.val }
      (e.consumerBusy c o.chan = false →
        d.settle c (o :: l) = (e.onChan o.chan fun x => { x with delivered := x.delivered + 1 }).deliver c o) ∧
      (e.consumerBusy c o.chan = true →
        d.settle c (o :: l) = (e.onChan o.chan fun x => { x with overrun := x.overrun + 1 }).onConsumer c fun x =>
          { x with overruns := satAdd (maxU 32) x.overruns 1, overrun := true })))

/-- R290: the commands of Waggle keep the Event Balance of every channel, Fired = Delivered + Merged + Overrun + InFlight, and that a
Disabled channel has no offer in flight and no candidate. -/
def Obligations.EventBalanceIsKept : Prop :=
  ∀ (s t : State) (h : Hdr) (k c : WaggleIx) (w : Data) (n : Fin 8) (level : Bool) (act : Instr),
    let flight := fun (d : Device) (k : WaggleIx) => (d.waggle.offers.filter fun o => o.chan = k).length
    let holds := fun (d : Device) => ∀ k : WaggleIx,
      d.waggle.chans[k].fired = d.waggle.chans[k].delivered + d.waggle.chans[k].merged + d.waggle.chans[k].overrun + flight d k ∧
      (d.waggle.chans[k].state = .disabled → flight d k = 0 ∧ d.waggle.chans[k].undecided = false)
    act ∈ [.enable h k, .disable h k, .fire h k, .reconfirm h k, .waggleClearCounts h k, .reclaim h k, .clearConsumers h w,
      .evioEdge n level, .evioPulseEnd n, .offerArrival c] →
    holds s.dev → exec act s = .next t → holds t.dev

/-! ### The microengine -/

/-- R299, R300, R304, R308, R310: a context without a routine starts the oldest of its requests of the highest urgency, with r1 to
r4 from its arguments, every other register and flag 0, and the entry of its armed bank or of the ROM; one that comes back after
it gave way counts a restart; and of the routines that have entered the one that entered first ends as a microcode fault 1 s after its
entry without END, whether it runs or has given way. The ROM entries 0x180 to 0x1FF point to one word, which is END. (The routine of a range
bridge presets the idle stage of its cell as it enters, log entry 45.) -/
def Obligations.RoutinesEnter : Prop :=
  (∀ (s : State) (x : CtxIx) (q : Request),
    let d := s.dev
    let c := d.ryu.ctxs[x]
    (d.modes.clocks = true → c.halted = false → c.running = none → d.nextRequest x = some q →
      (q.entered = false → Reaches (.routineStart x) s fun e =>
        let y := e.ryu.ctxs[x]
        y.state = .running ∧ y.running = some { q with since := some d.time } ∧ y.pc = d.entryAddress x q.routine ∧
        y.z = false ∧ y.n = false ∧ y.c = false ∧ y.restarts = 0 ∧
        y.queue = c.queue.erase q ∧ y.invocations = c.invocations + 1 ∧ y.unserved = (c.unserved && !q.event) ∧
        (∀ i : Fin 16, y.regs[i] = if 1 ≤ i.val ∧ i.val ≤ 4 then q.args.getD (i.val - 1) 0 else 0) ∧
        e = (d.presetBridge q).onCtx x fun _ => y) ∧
      (q.entered = true → q.restarts < 8 → Reaches (.routineStart x) s fun e =>
        let y := e.ryu.ctxs[x]
        y.state = .running ∧ y.running = some q ∧ y.pc = d.entryAddress x q.routine ∧ y.restarts = q.restarts + 1 ∧
        y.totalRestarts = c.totalRestarts + 1 ∧ y.queue = c.queue.erase q ∧ y.invocations = c.invocations ∧
        e = (d.presetBridge q).onCtx x fun _ => y) ∧
      (q.transitional = none → d.presetBridge q = d)) ∧
    (c.halted = false → c.open' ≠ [] → ∃ o ∈ c.open', (∀ p ∈ c.open', o.since.getD 0 ≤ p.since.getD 0) ∧
      Gives (.routineTimeLimit x) s (if c.running = some o then d.endWith x o 7 else d.endQueued x o 7))) ∧
  (∀ (d : Device) (x : CtxIx) (n : Nat), 0x180 ≤ n → n < 0x200 → d.ryu.ctxs[x].armed = 0 →
    d.entryAddress x n = d.entryAddress x 0x180 ∧
    ∃ w, d.controlWord (d.entryAddress x n) = some w ∧ mwOp w = 0x19 ∧ mwReserved w = false)

/-- R302, R304: the microwords that compute. MOV, ADD, SUB and CMP give the result and the flags that R302 states; AND, OR, XOR,
SHL and SHR the result with Z and N, and a C that is open; NOP nothing. Each writes its own context alone, whose next word
follows; r0 takes no write. R302, R303, R307, R308: the microwords that steer: a BR goes to Target where its condition holds and
on where not; a first COMMIT commits; END ends the routine; FAULT ends it with the code 0x80 + Imm; LOG writes an entry once
committed. A second COMMIT, and LOG or ADDOBJ before COMMIT, end it as a microcode fault. -/
def Obligations.MicrowordsComputeAndSteer : Prop :=
  (∀ (s : State) (x : CtxIx) (cy : Nat) (q : Request) (w : BitVec 128),
    let t := s.dev.slotFor x cy w
    let c := t.ryu.ctxs[x]
    let rd := (w.extractLsb' 107 4).toNat
    let a := c.reg (w.extractLsb' 103 4).toNat
    let b := if w.getLsbD 98 then (w.extractLsb' 64 32).signExtend 64 else c.reg (w.extractLsb' 99 4).toNat
    let into := fun (c : Context) (v : BitVec 64) => if rd = 0 then c else { c with regs := vmap (fun i r => if i = rd then v else r) c.regs }
    let alu := fun (i : Instr) (op : Nat) (v : BitVec 64) (carry : Bool) => Issues s.dev x cy op q w →
      ChangesContext i s t x (into { c with z := decide (v = 0), n := v.msb, c := carry } v).wordDone
    let logic := fun (i : Instr) (op : Nat) (v : BitVec 64) => Issues s.dev x cy op q w → ∃ carry,
      ChangesContext i s t x (into { c with z := decide (v = 0), n := v.msb, c := carry } v).wordDone
    (Issues s.dev x cy 0x00 q w → ChangesContext (.microNop x .clean) s t x c.wordDone) ∧
    (Issues s.dev x cy 0x01 q w → ChangesContext (.microMov x .clean) s t x (into c b).wordDone) ∧
    alu (.microAdd x .clean) 0x02 (a + b) (decide (2 ^ 64 ≤ a.toNat + b.toNat)) ∧
    alu (.microSub x .clean) 0x03 (a - b) (decide (a.toNat < b.toNat)) ∧
    logic (.microAnd x .clean) 0x04 (a &&& b) ∧ logic (.microOr x .clean) 0x05 (a ||| b) ∧
    logic (.microXor x .clean) 0x06 (a ^^^ b) ∧ logic (.microShl x .clean) 0x07 (a <<< (b.toNat % 64)) ∧
    logic (.microShr x .clean) 0x08 (a >>> (b.toNat % 64)) ∧
    (Issues s.dev x cy 0x09 q w → ChangesContext (.microCmp x .clean) s t x
      { c with z := decide (a - b = 0), n := (a - b).msb, c := decide (a.toNat < b.toNat) }.wordDone)) ∧
  (∀ (s : State) (x : CtxIx) (cy : Nat) (q : Request) (w : BitVec 128),
    let t := s.dev.slotFor x cy w
    let d := s.dev.issuing x cy w
    let c := t.ryu.ctxs[x]
    (Issues s.dev x cy 0x10 q w →
      ChangesContext (.microBr x .clean) s t x (
        if c.holds (w.extractLsb' 111 3).toNat then { c.wordDone with pc := (w.extractLsb' 24 14).toNat } else c.wordDone)) ∧
    (Issues s.dev x cy 0x18 q w →
      (c.state ≠ .committed →
        ChangesContext (.microCommit x .clean) s (t.connectBridge q) x { c.wordDone with state := .committed, sinceCommit := 1 }) ∧
      (c.state = .committed → Gives (.microCommit x .clean) s (d.endWith x q 3))) ∧
    (Issues s.dev x cy 0x19 q w → Gives (.microEnd x .clean) s ((d.clearTransitional q).onCtx x Context.ended)) ∧
    (Issues s.dev x cy 0x1A q w → Gives (.microFault x .clean) s (d.endWith x q (0x80 + (w.extractLsb' 64 7).toNat))) ∧
    (Issues s.dev x cy 0x1B q w →
      (c.state = .committed → Gives (.microLog x .clean) s (
        (d.addLog 0 (w.extractLsb' 64 16).toNat (c.reg (w.extractLsb' 99 4).toNat).toNat).goTo x (c.pc + 1))) ∧
      (c.state ≠ .committed → Gives (.microLog x .clean) s (d.endWith x q 2))) ∧
    (Issues s.dev x cy 0x0C q w → c.state ≠ .committed → Gives (.microAddobj x .clean) s (d.endWith x q 2)))

/-- R302: the microwords that reach objects and units. RDOBJ gives Rd the object's value, sign-extended where it is signed (open
where it is longer than a register or without power); WROBJ stores Rb in the object, and ADDOBJ, once committed, its sum with Rb, by
the object's own rules of state and value, and where the object is not there or they refuse the write the routine ends as a microcode
fault; RDUNIT reads a unit register, whose value is open; WRUNIT writes one. -/
def Obligations.MicrowordsReachObjects : Prop :=
  ∀ (s : State) (x : CtxIx) (cy : Nat) (q : Request) (w : BitVec 128) (e : Entry) (f : WSpec),
    let t := s.dev.slotFor x cy w
    let d := s.dev.issuing x cy w
    let c := t.ryu.ctxs[x]
    let rd := (w.extractLsb' 107 4).toNat
    let a := c.reg (w.extractLsb' 103 4).toNat
    let b := c.reg (w.extractLsb' 99 4).toNat
    let idx := ((w.extractLsb' 48 16).toNat + a.toNat) % 65536
    let sub := (w.extractLsb' 40 8).toNat
    let unit := ((w.extractLsb' 64 32).toNat + a.toNat) % 2 ^ 32
    let there := d.entryAt idx sub = some e ∧ e.len ≤ 8 ∧ d.objectOff idx sub = false
    let stores := fun (i : Instr) (v : Nat) =>
      (∀ v', v' = v % 2 ^ (8 * e.len) →
        (d.specAt d.link.dealer.session true idx sub v' = some f → firstRefusal (f.state ++ f.value) = none →
          Gives i s ((f.apply d).goTo x (c.pc + 1))) ∧
        (d.specAt d.link.dealer.session true idx sub v' = some f → firstRefusal (f.state ++ f.value) ≠ none → Gives i s (d.endWith x q 4)) ∧
        (d.specAt d.link.dealer.session true idx sub v' = none → Gives i s ((d.poke idx sub v').goTo x (c.pc + 1))))
    (Issues s.dev x cy 0x0A q w → ∃ v : BitVec 64, (there → v = BitVec.ofInt 64 e.val) ∧
      ChangesContext (.microRdobj x .clean) s t x (c.setReg rd v).wordDone) ∧
    (Issues s.dev x cy 0x0B q w → there → stores (.microWrobj x .clean) b.toNat) ∧
    (Issues s.dev x cy 0x0B q w → d.entryAt idx sub = none → Gives (.microWrobj x .clean) s (d.endWith x q 4)) ∧
    (Issues s.dev x cy 0x0C q w → c.state = .committed → there →
      stores (.microAddobj x .clean) (BitVec.ofInt 64 e.val + b).toNat) ∧
    (Issues s.dev x cy 0x0D q w → ∃ v : BitVec 64, ChangesContext (.microRdunit x .clean) s t x (c.setReg rd v).wordDone) ∧
    (Issues s.dev x cy 0x0E q w → Gives (.microWrunit x .clean) s (
      ({ d with ryu := { d.ryu with unitWrites := putKey unit b d.ryu.unitWrites } }).goTo x (c.pc + 1)))

/-- R304, R306 to R308: a word of a routine that has not committed, struck by a corrected error, restarts the routine from its entry
with its arguments alone, and after the eighth restart ends it as a livelock; one of a committed routine is repeated up to eight
times; an uncorrectable error ends the routine: whatever the word, for each row. R298: the context that issues next is, of those that are
ready first, the one that comes first in the order that goes on from the last issuer, and its word occupies it for Dwell + 1 FCLK cycles;
the row of another context has no effect before (log entry 55). R306: a routine that gives way does so at its word boundary. -/
def Obligations.ErrorsRestartOrRepeat : Prop :=
  (∀ (s : State) (x : CtxIx) (cy : Nat) (q : Request) (w : BitVec 128) (op : Nat) (row : CtxIx → MicroEv → Instr) (ev : MicroEv),
    (op, row) ∈ [(0x00, Instr.microNop), (0x01, .microMov), (0x02, .microAdd), (0x03, .microSub), (0x04, .microAnd), (0x05, .microOr),
      (0x06, .microXor), (0x07, .microShl), (0x08, .microShr), (0x09, .microCmp), (0x0A, .microRdobj), (0x0B, .microWrobj),
      (0x0C, .microAddobj), (0x0D, .microRdunit), (0x0E, .microWrunit), (0x10, .microBr), (0x18, .microCommit), (0x19, .microEnd),
      (0x1A, .microFault), (0x1B, .microLog)] →
    let d := s.dev
    (Issues d x cy op q w →
      let t := d.slotFor x cy w
      let c := t.ryu.ctxs[x]
      (c.state ≠ .committed → c.restarts < 8 →
        ChangesContext (row x .corrected) s (t.presetBridge q) x
          { c with state := .running, pc := d.entryAddress x q.routine, regs := entryRegs q.args, z := false, n := false, c := false
                   sinceCommit := 0, repeats := 0, restarts := c.restarts + 1, totalRestarts := c.totalRestarts + 1 }) ∧
      (c.state ≠ .committed → 8 ≤ c.restarts → Gives (row x .corrected) s (t.nextFree.endWith x q 0x10)) ∧
      (c.state = .committed → c.repeats < 8 → ChangesContext (row x .corrected) s t x { c with repeats := c.repeats + 1 }) ∧
      Gives (row x .uncorrectable) s (t.endWith x q 0x11)) ∧
    (∀ y, d.nextTurn = some (y, cy) → y ≠ x → d.preempted x = false → Gives (row x ev) s d) ∧
    (d.modes.clocks = true → d.ryu.ctxs[x].halted = false → d.preempted x = true →
      Gives (row x ev) s ((d.advanceTo d.ryu.ctxs[x].readyAt).giveWay x))) ∧
  (∀ (d : Device) (x : CtxIx) (cy : Nat) (w : BitVec 128),
    let at' := fun (y : CtxIx) => max d.ryu.ctxs[y].readyAt (max d.fclk d.ryu.nextIssue)
    let ready := fun (y : CtxIx) => d.ryu.ctxs[y].running ≠ none ∧ d.ryu.ctxs[y].halted = false
    let place := fun (y : CtxIx) => (y.val + 3 - d.ryu.lastIssuer.val) % 4
    (d.nextTurn = some (x, cy) ↔ ready x ∧ cy = at' x ∧
      ∀ y, ready y → at' x < at' y ∨ (at' x = at' y ∧ place x ≤ place y)) ∧
    (d.nextTurn = some (x, cy) →
      let t := d.slotFor x cy w
      t.ryu.lastIssuer = x ∧ t.ryu.nextIssue = cy + 1 ∧ t.ryu.ctxs[x].readyAt = cy + (w.extractLsb' 120 8).toNat + 1 ∧ t.fclk = cy ∧
      ∀ y, y ≠ x → t.ryu.ctxs[y] = d.ryu.ctxs[y]))

/-- R314, R425 to R427, R430: the commands that arm and disarm the selected contexts where no rule refuses them, and the debug
instructions, which act where internal debug is permitted and else are counted as refused. R426, R427: the instructions of the
test access port: IDCODE and BYPASS capture what the standard says, SAMPLE/PRELOAD loads, and EXTEST, CLAMP and HIGHZ take effect
in the device modes of R427 with no region busy, and elsewhere are refused and counted; what they capture is open.
Test-Logic-Reset selects IDCODE. -/
def Obligations.PatchesDebugAndTapAct : Prop :=
  (∀ (s : State) (h : Hdr) (i : Fin 16) (x : CtxIx) (k : Fin 16) (what : Peek) (q : Request) (w : BitVec 128),
      let d := s.dev
      let allows := fun (n : Nat) => d.selectedCtxs ≠ [] ∧ (∀ y ∈ d.selectedCtxs, d.ryu.ctxs[y].occupied = false ∧
          (d.ctxClosed y).1 = false ∧ (n = 3 ∨ (d.ryu.bank (n - 1)).contexts.testBit y.val = true)) ∧
        (n = 3 ∨ (d.ryu.bank (n - 1)).loaded = true)
      let arms := fun (i' : Instr) (n : Nat) => allows n → Accepts i' s h i fun d =>
        d.selectedCtxs.foldl (fun d y => d.onCtx y fun c => { c with armed := if n = 3 then 0 else n }) d
      (MayWrite d h i → (d.sec.life = .sealed → d.isSecure i h = true) → d.sec.life ≠ .retired →
        arms (.armBank0 h) 1 ∧ arms (.armBank1 h) 2 ∧ arms (.patchDisarm h) 3) ∧
      (d.tapOn = true →
        (d.controlPermitted = true →
          (d.haltScope x = true → Gives (.dbgctl x .halt) s ((d.loadTap .dbgctl).onCtx x fun c => { c with halted := true })) ∧
          Gives (.dbgctl x .resume) s ((d.loadTap .dbgctl).onCtx x fun c => { c with halted := false }) ∧
          (∃ e : Device, e = d.loadTap .dbgctl ∧
            Gives (.dbgctl x (.readReg k)) s { e with sec := { e.sec with tapData := (d.ryu.ctxs[x].reg k.val).toNat } }) ∧
          (d.ryu.ctxs[x].halted = true → d.ryu.ctxs[x].running = some q → d.modes.clocks = true →
            (d.loadTap .dbgctl).controlWord d.ryu.ctxs[x].pc = some w →
            let e := d.loadTap .dbgctl
            Gives (.dbgctl x .step) s (
              e.issueWord x (max d.ryu.ctxs[x].readyAt (max d.fclk d.ryu.nextIssue)) (mwOp w) .clean q))) ∧
        (d.controlPermitted = false → ∀ op, Gives (.dbgctl x op) s (d.refuseScan .dbgctl)) ∧
        (d.peekPermitted what = true → Gives (.dbgpeek what) s (
          ({ d with sec := { d.sec with tap := .dbgpeek, tapData := d.peekValue what } }).nextFree)) ∧
        (d.peekPermitted what = false → Gives (.dbgpeek what) s (d.refuseScan .dbgpeek)))) ∧
  (∀ (s : State),
      let d := s.dev
      let tap := fun (i : Instr) (t : TapInstr) (p : Nat → Prop) (n : Nat) => Reaches i s fun e =>
        p e.sec.tapData ∧ e = { d with sec := { d.sec with tap := t, tapData := e.sec.tapData, refusedScans := n }, free := e.free }
      let same := d.sec.refusedScans
      let more := min (2 ^ 32 - 1) (d.sec.refusedScans + 1)
      Gives .tapReset s { d with sec := { d.sec with tap := .idcode } } ∧
      (d.tapOn = true →
        tap .tapIdcode .idcode (· = idcode) same ∧ tap .tapBypass .bypass (· = 0) same ∧
        tap .tapSamplePreload .samplePreload (fun _ => True) same ∧
        (d.boundaryMode = true → tap .tapExtest .extest (fun _ => True) same ∧ tap .tapClamp .clamp (fun _ => True) same ∧
          tap .tapHighz .highz (fun _ => True) same) ∧
        (d.boundaryMode = false → tap .tapExtest .extest (· = 0) more ∧ tap .tapClamp .clamp (· = 0) more ∧
          tap .tapHighz .highz (· = 0) more)))

/-! ### The link, sessions and the deal -/

/-- R323, R324, R326: an Attach makes the lowest free session an Observer and tells its number and the part's address, or is
refused when 16 exist, and one that fails a check of R319, R324 or R423 is discarded; a Detach ends the session's transfer, lets what
still waits be answered, is answered and ends its session; a Heartbeat is answered with DealerEpoch; a session without a frame for
SessionTimeout ends. R331: an acknowledgement takes its session from the Notify of that Sequence, and a Notify that waits for no session
leaves the queue; what waits is sent again to those who have not acknowledged it, on the port each now uses, and leaves the queue
after the eighth time. -/
def Obligations.SessionsAndNotifiesAct : Prop :=
  (∀ (s : State) (hostId upper : Nat) (h : Hdr) (i : Fin 16),
    let d := s.dev
    let node := if d.link.assigned then d.link.nodeAddress else h.node
    let told := fun (d : Device) (r : Reply) =>
      d.emit { port := h.port, session := 0, seq := h.seq, secure := h.secure, type := 1, node := node, tag := h.tag, reply := r }
    let passes := d.answering = true ∧ arrives h true = true ∧ d.nodeOk h.node = true ∧ h.secure = false
    (d.linkUp h.port = true →
      (passes → (∀ k, d.freeSession = some k →
          Gives (.attach h hostId upper) s (told
            (d.onSession k fun _ => { attached := true, hostId := hostId % 2 ^ 48, lastPort := h.port, lastFrame := d.now })
            (.ok [sessNo k, node]))) ∧
        (d.freeSession = none → Gives (.attach h hostId upper) s (told d (.error { code := 5, reason := 4 } 0 0)))) ∧
      (¬ passes → Gives (.attach h hostId upper) s (d.onPort h.port fun p => { p with discarded := p.discarded + 1 }))) ∧
    (Heard d h i →
      let e := (d.heard i h).endTransfer i
      let e := { e with link := e.link.flush i }
      Gives (.detach h) s ((e.emit { port := h.port, session := sessNo i, seq := h.seq, secure := h.secure, type := 2, node := node
                                     tag := h.tag, reply := .ok [] }).endSession i)) ∧
    (Heard d h i → d.sec.life ≠ .blank → Gives (.heartbeat h) s ((d.heard i h).answers i h [d.link.dealer.epoch] (type := 12))) ∧
    (d.answering = true → d.link.sessions[i].attached = true → Gives (.sessionTimeout i) s (d.endSession i))) ∧
  (∀ (s : State) (h : Hdr) (i : Fin 16),
    let d := s.dev
    (d.linkUp h.port = true → d.frameOk h = some i →
      let e := (d.frameSeen i h.port).grantCredits i h
      let left := fun (w : Nat × PortIx × Nat) => decide (¬(w.1 = sessNo i ∧ w.2.1 = h.port ∧ w.2.2 = h.seq))
      Gives (.notifyAck h) s { e with link := { e.link with notifies :=
        (e.link.notifies.map fun n => { n with waiting := n.waiting.filter left }).filter fun n => decide (n.waiting ≠ []) } }) ∧
    (d.answering = true → ∃ l : Link,
      Gives .notifyRetransmit s { d with link := l } ∧
      l.notifies.map (fun n => (n.kind, n.level, n.source, n.disciplined, n.time, n.data0, n.data1, n.sentAgain, n.waiting.map (·.1))) =
        (d.link.notifies.filter fun n => decide (n.sentAgain < 7)).map (fun n =>
          (n.kind, n.level, n.source, n.disciplined, n.time, n.data0, n.data1, n.sentAgain + 1, n.waiting.map (·.1))) ∧
      ({ l with sent := d.link.sent, notifies := d.link.notifies, sessions := d.link.sessions } : Link) = d.link ∧
      (∀ j : Fin 16, ({ l.sessions[j] with own0 := d.link.sessions[j].own0, own1 := d.link.sessions[j].own1 } : Session) =
        d.link.sessions[j]) ∧
      ((∀ n ∈ d.link.notifies, ∀ w ∈ n.waiting, ∀ j, sessIx w.1 = some j → d.link.sessions[j].lastPort = w.2.1) →
        l = { d.link with
          sent := d.link.sent ++ d.link.notifies.flatMap d.link.notifyFrames
          notifies := (d.link.notifies.map fun n => { n with sentAgain := n.sentAgain + 1 }).filter fun n => decide (n.sentAgain < 8) })))

/-- R323, R334, R336: a session that ends leaves its place empty and its transfers closed, waits for no Notify, and takes no part
in an election; of the others only the count of the part's own frames may move; where it was the Dealer the deal is vacated with
the next DealerEpoch, and where not the deal stays. -/
def Obligations.EndOfASessionVacatesItsDeal : Prop :=
  ∀ (d : Device) (i : Fin 16),
    let e := d.endSession i
    e.link.sessions[i] = {} ∧
    (∀ j : Fin 16, j ≠ i → ∃ a b, e.link.sessions[j] = { d.link.sessions[j] with own0 := a, own1 := b }) ∧
    (∀ l, d.link.window = some l → e.link.window = some (l.filter fun c => c.session ≠ sessNo i)) ∧
    (d.isDealer i = false → e.link.dealer = d.link.dealer ∧ e.regions = d.regions ∧
      (∀ j : Fin 16, j ≠ i → e.link.sessions[j] = d.link.sessions[j]) ∧
      ∀ n ∈ e.link.notifies, ∀ w ∈ n.waiting, w.1 ≠ sessNo i) ∧
    (d.isDealer i = true → e.link.dealer = { session := 0, hostId := 0, priority := 0, cls := 0, epoch := (d.link.dealer.epoch + 1) % 2 ^ 32 } ∧
      e.link.readyOwed = true ∧ e.link.vacateCause = .sessionEnd ∧
      ∀ r : RegionIx, e.regions[r].dealer = if d.regions[r].mode = .off then d.regions[r].dealer else e.link.dealer)

/-- R333 to R336, R380: a Claim while there is no Dealer waits for the end of the window, its answer owed, and the Dealer's own is
answered at once; the window's end makes the winner Dealer with the next epoch and answers every claimer; Yield vacates the deal or passes it
to an attached successor (whose Priority no rule states); a lapse of heartbeats vacates it; and with no region in Run the regions
in Configure that a Ready request would take move to Ready. R333: the claim that wins an election is the one with the highest
Priority, of those the highest HostId, and of those the lowest session; each claimer is answered. -/
def Obligations.TheDealPassesToTheHighestClaim : Prop :=
  (∀ (s : State) (h : Hdr) (i k : Fin 16) (prio cls : Nat) (l : List Claim) (w : Claim),
    let d := s.dev
    let x := d.heard i h
    (Heard d h i → d.sec.life ≠ .blank → cls = 1 ∨ (cls = 2 ∧ d.sec.life = .sealed ∧ d.link.sessions[i].secure = true) →
      (d.link.dealer.session = 0 → Gives (.claim h prio cls) s (
        Device.onSession { x with link := { x.link with window := some ((d.link.window.getD []) ++
          [{ session := sessNo i, priority := prio % 256, hostId := d.link.sessions[i].hostId, secure := h.secure, port := h.port
             seq := h.seq, node := h.node, tag := h.tag }]) } } i fun y => { y with owed := y.owed ++ [(h.port, h.seq)] })) ∧
      (d.isDealer i = true → Gives (.claim h prio cls) s (x.answers i h [d.link.dealer.session, d.link.dealer.epoch] (type := 9)))) ∧
    (d.link.window = some l → bestClaim l = some w →
      let e := { d with link := { d.link with window := none } }
      Gives .electionWindowClose s (l.foldl Device.answerClaim (e.setDealer
        { session := w.session, hostId := w.hostId, priority := w.priority, cls := d.dealerClass w.session, epoch := d.nextEpoch }
        d.link.vacateCause))) ∧
    (Heard d h i → d.sec.life ≠ .blank → d.isDealer i = true →
      Gives (.yield h 0) s ((x.vacate .yield).answers i h [(x.vacate .yield).link.dealer.epoch] (type := 10)) ∧
      (d.link.sessions[k].attached = true →
        ∃ any, let e := x.nextFree.setDealer { session := sessNo k, hostId := d.link.sessions[k].hostId, priority := any
                                               cls := d.dealerClass (sessNo k), epoch := d.nextEpoch } d.link.vacateCause
          Gives (.yield h (sessNo k)) s (e.answers i h [e.link.dealer.epoch] (type := 10)))) ∧
    (d.answering = true → d.link.dealer.session ≠ 0 → Gives .heartbeatLapse s (d.vacate .heartbeat)) ∧
    (d.link.readyOwed = true → d.regions[0].mode ≠ .run → d.regions[1].mode ≠ .run → d.shed.stage = 0 →
      d.modes.status ≠ .inProgress →
      Gives .dealerVacatedReady s (
        (([0, 1] : List RegionIx).foldl (fun (d : Device) r =>
          if d.regions[r].mode = .configure ∧ d.requestBlocked 2 r = false then d.setMode r .ready else d)
          { d with link := { d.link with readyOwed := false } }).refreshMode))) ∧
  (∀ (l : List Claim) (w : Claim), bestClaim l = some w → w ∈ l ∧ ∀ c ∈ l,
    c.priority < w.priority ∨ (c.priority = w.priority ∧
      (c.hostId < w.hostId ∨ (c.hostId = w.hostId ∧ w.session ≤ c.session))))

/-- R33, R317 to R320, R322, R324, R330, R332, R341, R342, R374, R376: what happens at a port. A frame whose FCS, address, tags, EtherType
or header fail counts as discarded; a Thenko frame that passes is the message that its Type names, its fields where R320 and R321 put
them. A link goes down, with the transfers on it, and comes up in the highest mode that both sides have (1000BASE-KX where no clock
runs), with the answers that waited for it; a Wake frame in Standby or Dormant wakes the part; a serdes PLL takes the link with it; and
the address is assigned. -/
def Obligations.PortsAct : Prop :=
  ∀ (s : State) (h : Hdr) (i : Fin 16) (p : PortIx) (w : Data) (f : Frame) (o : LinkOffer) (f' : FecOffer) (node : Nat) (world : World),
    let d := s.dev
    let down := fun (d : Device) => (List.finRange 16).foldl (fun d i =>
      match d.link.sessions[i].transfer with
      | some t => if t.port = p then d.endTransfer i else d
      | none => d) (d.onPort p fun x => { x with link := 0 })
    let hdr := d.hdrOf f
    let le := fun (off n : Nat) => numOf (((f.bytes.drop (16 + off)).take n).map BitVec.toNat)
    let rises := fun (link : Nat) =>
      let e := d.onPort p fun x => { x with link := link, fec := offerFec f' link }
      Gives (.linkUp p o f') s { e with link := (List.finRange 16).foldl Link.release e.link }
    (d.linkUp f.port = true → Frame.accepted f = false →
      Gives (.frameDiscarded f) s (d.onPort f.port fun x => { x with discarded := x.discarded + 1 })) ∧
    (d.linkUp f.port = true → Frame.accepted f = true → f.etherType = 0x88B5 →
      (hdr.port = f.port ∧ hdr.node = (numOf (((f.bytes.drop 2).take 3).reverse.map BitVec.toNat)) % 2 ^ 18 ∧
        hdr.session = numOf (((f.bytes.drop 6).take 2).reverse.map BitVec.toNat) ∧
        hdr.seq = numOf (((f.bytes.drop 8).take 4).reverse.map BitVec.toNat)) ∧
      (Frame.type f = 1 → 8 ≤ Frame.length f → ∀ t, exec (.frameDiscarded f) s = .next t → exec (.attach hdr (le 0 8 % 2 ^ 48) (le 6 2)) s = .next t) ∧
      (Frame.type f = 3 → 4 ≤ Frame.length f → Gives (.frameDiscarded f) s (d.readMsg hdr (le 0 2) (le 2 1))) ∧
      (Frame.type f = 4 → 8 + le 4 2 ≤ Frame.length f → ∀ t, exec (.frameDiscarded f) s = .next t →
        exec (.write hdr (le 0 2) (le 2 1) { len := le 4 2, val := le 8 (le 4 2) }) s = .next t) ∧
      (Frame.type f = 10 → 2 ≤ Frame.length f → ∀ t, exec (.frameDiscarded f) s = .next t → exec (.yield hdr (le 0 2)) s = .next t)) ∧
    (d.linkUp p = true → Gives (.linkDown p) s (down d)) ∧
    (d.modes.porst = true → d.linkUp p = false → d.answering = true → d.link.ports[p].pllLocked = true →
      (o.kr25g = true → rises 3) ∧ (o.kr25g = false → o.kr10g = true → rises 2)) ∧
    (d.modes.porst = true → d.linkUp p = false → d.answering = false → o.kx1g = true → rises 1) ∧
    ((d.answering = true → o.kr25g = false ∧ o.kr10g = false) → (d.answering = false → o.kx1g = false) → Gives (.linkUp p o f') s d) ∧
    (d.nodeOk node = true → d.shed.stage < 4 →
      (d.powerState = .standby → Gives (.wakeFrame p true node world) s (d.wakeStandby .wakeFrame)) ∧
      (d.powerState = .dormant → Gives (.wakeFrame p true node world) s (d.powerUp world .wakeFrame world.dramHeld))) ∧
    (d.modes.coreDie = true →
      let lost := down (d.onPort p fun x => { x with pllLocked := false })
      let locked := d.onPort p fun x => { x with pllLocked := true }
      Gives (.serdesPllLoss p) s (lost.setCause .chip 1 (!(lost.link.ports[(0 : PortIx)].pllLocked && lost.link.ports[(1 : PortIx)].pllLocked))) ∧
      Gives (.serdesPllRelock p) s (
        locked.setCause .chip 1 (!(locked.link.ports[(0 : PortIx)].pllLocked && locked.link.ports[(1 : PortIx)].pllLocked)))) ∧
    (MayWrite d h i → w.len = 4 → w.val ≤ 262143 →
      Accepts (.nodeAddressWrite h w) s h i fun d => { d with link := { d.link with nodeAddress := w.val, assigned := true } })

/-- R15, R338 to R340, R347, R348: PTP messages of the domain on an enabled port are taken, and steer the Keeper time (by an amount
that no rule states) once the clock is Slave; the loss of the master leaves it Listening; the writes of ScheduledStart, as registers
or as one Sync, where no selected run is Armed or Running; and the master's pulses on the SYNC bus. -/
def Obligations.ClocksAndStartsAct : Prop :=
  ∀ (s : State) (h : Hdr) (i : Fin 16) (p : PortIx) (sub : Nat) (w : Data) (gm : Nat) (offset : Int) (delay time regions source hostId : Nat),
    let d := s.dev
    let x := d.ptp
    let taken := fun (st : PtpState) => { d with ptp := { x with state := st, port := p.val, gm := gm, offset := offset, delay := delay } }
    let put := fun (x : Sched) => { x with started := false, late := false, freeRunning := false }
    (d.linkUp p = true → d.answering = true → x.enable.testBit p.val = true →
      Gives (.ptpMessage p x.domain gm offset delay false) s (taken .uncalibrated) ∧
      (∃ t, Gives (.ptpMessage p x.domain gm offset delay true) s ({ taken .slave with keeper2 := t }).nextFree)) ∧
    (x.state = .slave ∨ x.state = .uncalibrated → x.enable % 4 ≠ 0 →
      Gives .ptpMasterLost s { d with ptp := { x with state := .listening, port := 0xFF } }) ∧
    (MayWrite d h i → d.selectedBusy = false →
      (sub = 1 → w.len = 8 → Accepts (.scheduledStartWrite h sub w) s h i fun d =>
        { d with sched := { put d.sched with time := w.val } }) ∧
      (sub = 2 → w.len = 1 → Accepts (.scheduledStartWrite h sub w) s h i fun d =>
        { d with sched := { put d.sched with regions := w.val % 4 } }) ∧
      (sub = 3 → w.len = 1 → w.val < 3 → Accepts (.scheduledStartWrite h sub w) s h i fun d =>
        { d with sched := { put d.sched with source := w.val } }) ∧
      (source < 3 → let e := d.heard i h
        Gives (.sync h false time regions source hostId) s (
          ({ e with sched := { put d.sched with time := time, regions := regions % 4, source := source } }).answers i h [] (type := 11)))) ∧
    (d.linkUp h.port = true → d.answering = true → arrives h true = true → d.sec.life ≠ .blank → d.selectedBusy = false → source < 3 →
      d.link.dealer.session ≠ 0 → hostId % 2 ^ 48 = d.link.dealer.hostId →
      Gives (.sync h true time regions source hostId) s
        { d with sched := { put d.sched with time := time, regions := regions % 4, source := source } }) ∧
    (MayWrite d h i → d.sched.role = 2 →
      Accepts (.syncPulse h) s h i (fun d => { d with sched := { d.sched with drove0 := d.sched.drove0 + 1 } }) ∧
      Accepts (.syncStop h) s h i (fun d => { d with sched := { d.sched with drove1 := d.sched.drove1 + 1 } }))

/-- R327 to R329, R364, R365: block transfers. A ReadBlock opens its transfer with the credits of its frame, and sends its frames one
credit each, under errors that have struck log entries, the last with the response; a WriteBlock opens its transfer and is answered with credits; a host frame at its turn is
held, or streamed to DRAM, and the last one of a staged write applies it; a WriteBlock without a frame for 1 s is refused. -/
def Obligations.BlocksAreTransferred : Prop :=
  ∀ (s : State) (h : Hdr) (i : Fin 16) (idx off len : Nat) (o : DomObj) (t : Transfer) (bytes : List Byte) (l : List SlotErr),
    let d := s.dev
    let x := d.heard i h
    let y := d.strikeLog l
    (Heard d h i → domainAt idx = some o → d.link.sessions[i].transfer = none → firstRefusal (d.readChecks o off len) = none →
      Gives (.readblock h idx 0 off len) s (
        (x.onPort h.port fun p => { p with hostReturned := p.hostReturned - h.credits }).onSession i fun y =>
          { y with
            transfer := some { port := h.port, seq := h.seq, secure := h.secure, write := false, idx, off, len, credits := h.credits
                               node := h.node, tag := h.tag
                               behind := (objectRegion idx).elim 0 fun r => d.regions[r].dram.writes.length }
            owed := y.owed ++ [(h.port, h.seq)] })) ∧
    (MayWrite d h i → domainAt idx = some o → d.link.sessions[i].transfer = none →
      firstRefusal (d.blockSpec o (d.isSecure i h) off len).access = none → firstRefusal (d.blockSpec o (d.isSecure i h) off len).state = none →
      firstRefusal (d.blockSpec o (d.isSecure i h) off len).value = none → ∃ grant, grant ≤ 1024 ∧
      let open' := ((x.nextFree.onPort h.port fun p => { p with partGranted := p.partGranted + grant }).onSession i fun y =>
        { y with transfer := some { port := h.port, seq := h.seq, secure := h.secure, write := true, idx, off, len, credits := grant
                                    node := h.node, tag := h.tag } })
      Gives (.writeblock h idx 0 off len) s (open'.respond i (retOf h 6) (.interim [off, grant]))) ∧
    (Heard d h i → d.link.sessions[i].transfer = some t → domainAt t.idx = some o → t.write = true → t.port = h.port →
      off = t.off + t.done → t.credits ≠ 0 → bytes ≠ [] → bytes.length ≤ 8192 → t.done + bytes.length ≤ t.len →
      d.streamRefusal i o = none →
      ((∀ r, o ≠ .vectors r) → t.done + bytes.length < t.len → t.since < 63 →
        Gives (.blockData h off bytes) s (
          (x.onPort t.port fun p => { p with partConsumed := p.partConsumed + 1 }).onSession i fun y =>
            { y with transfer := some { t with done := t.done + bytes.length, credits := t.credits - 1, since := t.since + 1
                                               staged := t.staged ++ bytes } })) ∧
      Gives (.blockData h off bytes) s ((x.takeFrame i t bytes).afterFrame i o)) ∧
    (d.link.sessions[i].transfer = some t → t.write = false → t.credits ≠ 0 → y.frameBytes t = some bytes →
      let u := { t with done := t.done + bytes.length, staged := [], credits := t.credits - 1 }
      let sent := (((y.onPort t.port fun p => { p with hostConsumed := p.hostConsumed + 1 }).onSession i fun z =>
        ({ z with transfer := some u }).sendOwn t.port).emit
          { port := t.port, session := sessNo i, seq := d.link.sessions[i].own t.port, secure := t.secure, type := 7
            node := d.link.nodeOf t.node, tag := t.tag, reply := .own ((t.off + t.done) :: bytes.map BitVec.toNat) })
      let sent := if domainAt t.idx = some .logDump then sent.readLog (t.off + t.done) bytes.length else sent
      Gives (.blockDataSend ⟨i, l⟩) s (if u.done < t.len then sent else (sent.respond i t.ret (.ok [])).endTransfer i)) ∧
    (d.link.sessions[i].transfer = some t → t.write = true →
      Gives (.blockTransferTimeout i) s (
        (d.respond i t.ret (.error { code := 5, reason := 3 } t.idx 0)).endTransfer i))

/-! ### Lifecycle, authentication and the test access port -/

/-- R417 to R419, R428: the lifecycle commands where no rule refuses them, and the end of the programming of fuses: the part is Sealed
with the staged key, or Retired with its key destroyed, or the procedure has Failed. -/
def Obligations.LifecycleActs : Prop :=
  ∀ (s : State) (h : Hdr) (i : Fin 16) (w : Data),
    let d := s.dev
    let x := d.sec
    (MayWrite d h i → x.status ≠ .programming →
      (w.len = 32 → x.life = .openLife → x.keyState = .none ∨ x.keyState = .staged →
        Accepts (.keyProvision h w) s h i fun d => { d with sec := { d.sec with staging := w.val % 2 ^ 256, keyState := .staged } }) ∧
      (x.life = .openLife → x.keyState = .staged → d.shed.stage = 0 → d.fuseMode = true → x.keyCheck = keyCheckOf x.staging →
        Accepts (.seal h) s h i fun d => { d with sec := { d.sec with status := .programming, sealing := some true } }) ∧
      (x.life ≠ .retired → (x.life = .sealed → d.isSecure i h = true) → d.fuseMode = true →
        Accepts (.retire h) s h i fun d => { d with sec := { d.sec with status := .programming, sealing := some false } }) ∧
      Accepts (.discardKey h) s h i (fun d =>
        { d with sec := { d.sec with staging := 0, keyState := if d.sec.keyState = .staged then .none else d.sec.keyState } })) ∧
    (x.sealing = some true → Gives (.fuseProgrammingComplete true) s (
      ({ d with sec := { x with sealing := none, life := .sealed, lifeFuse := .sealed, keyState := .programmed, key := x.staging
                                staging := 0, status := .done } }).lifeChanged)) ∧
    (x.sealing = some false → Gives (.fuseProgrammingComplete true) s (
      (({ d with sec := { x with sealing := none, life := .retired, lifeFuse := .retired, keyState := .destroyed, key := 2 ^ 256 - 1
                                 staging := 0, status := .done } }).loseSecure).lifeChanged)) ∧
    (x.sealing ≠ none → Gives (.fuseProgrammingComplete false) s
      { d with sec := { x with sealing := none, keyState := .partly, status := .failed } })

/-- R420 to R422, R428: a Challenge is answered with a nonce (an open value); the right Answer within 100 ms makes the session
secure, with its key, and clears the failures, and a wrong one counts; a token write that the rules allow unlocks or counts, and
renews the nonce; Lock and the expiry end an unlock, and halted contexts resume. R422: authentication failures count up to 255 and
in all; the fourth in a row locks out for 1 s, and each further one doubles the lockout up to 256 s. -/
def Obligations.AuthenticationAndLockoutAct : Prop :=
  (∀ (s : State) (h : Hdr) (i : Fin 16) (nonce mac : Nat) (w : Data) (c : Challenge),
    let d := s.dev
    let x := d.heard i h
    let body := authBody (sessNo i) d.link.sessions[i].hostId c.hostNonce c.partNonce
    let pending := x.onSession i fun y => { y with challenge := none }
    (Heard d h i → d.sec.life = .sealed →
      (d.lockedOut = false → ∃ part, Gives (.challenge h nonce) s (
        (x.nextFree.onSession i fun y =>
          { y with challenge := some { hostNonce := nonce % 2 ^ 128, partNonce := part, time := d.now } }).answers i h [part] (type := 13))) ∧
      (d.link.sessions[i].challenge = some c → d.now ≤ c.time + 100000000 →
        (mac = authMac d.sec.key 0x48 body →
          Gives (.answer h mac) s ((pending.makeSecure i body).answers i h [authMac d.sec.key 0x50 body] (type := 14))) ∧
        (mac ≠ authMac d.sec.key 0x48 body →
          Gives (.answer h mac) s (({ pending with sec := d.sec.fail d.now }).refuses i h 4 2 0 0 (type := 14))))) ∧
    (MayWrite d h i → d.sec.life = .sealed → d.isSecure i h = true → w.len = 32 →
      (w.val = d.token → Gives (.unlockToken h w) s (
        ({ x with sec := { d.sec with unlocked := true
                                      unlockExpiry := d.now + d.sec.unlockMinutes * 60000000000 } }).renewNonce.answers i h [])) ∧
      (w.val ≠ d.token → Gives (.unlockToken h w) s (({ x with sec := d.sec.fail d.now }).renewNonce.refuses i h 4 2 0x2220 4))) ∧
    Gives .lockoutExpiry s { d with sec := { d.sec with lockoutUntil := 0 } } ∧
    (MayWrite d h i → Accepts (.lock h) s h i Device.endUnlock) ∧
    (d.sec.unlocked = true → Gives .unlockExpiry s (
      { d with sec := { d.sec with unlocked := false, unlockExpiry := 0 }
               ryu := { d.ryu with ctxs := vmap (fun _ (x : Context) => { x with halted := false }) d.ryu.ctxs } }))) ∧
  (∀ (x : Security) (now : Nat),
    let y := x.fail now
    y.failures = min 255 (x.failures + 1) ∧ y.totalFailures = min (2 ^ 32 - 1) (x.totalFailures + 1) ∧
    (x.failures < 3 → y.lockoutUntil = x.lockoutUntil ∧ y.lockoutS = x.lockoutS) ∧
    (3 ≤ x.failures → x.lockoutS = 0 → y.lockoutS = 1 ∧ y.lockoutUntil = now + 1000000000) ∧
    (3 ≤ x.failures → x.lockoutS ≠ 0 → y.lockoutS = min 256 (2 * x.lockoutS) ∧
      y.lockoutUntil = now + min 256 (2 * x.lockoutS) * 1000000000) ∧
    y = { x with failures := y.failures, totalFailures := y.totalFailures, lockoutS := y.lockoutS, lockoutUntil := y.lockoutUntil })

/-- R421, R422: an Answer makes no session secure but its own, and that only where a challenge of this session was pending, at most
100 ms old, and the MAC is the one that the key, the part, the session, its host and both nonces give. -/
def Obligations.OnlyTheRightAnswerMakesSecure : Prop :=
  ∀ (s t : State) (h : Hdr) (mac : Nat) (j : Fin 16),
    exec (.answer h mac) s = .next t → t.dev.link.sessions[j].secure = true → s.dev.link.sessions[j].secure = false →
    ∃ c, s.dev.frameOk h = some j ∧ s.dev.sec.life = .sealed ∧ s.dev.link.sessions[j].challenge = some c ∧
      s.dev.now ≤ c.time + 100000000 ∧
      mac = authMac s.dev.sec.key 0x48 (authBody (sessNo j) s.dev.link.sessions[j].hostId c.hostNonce c.partNonce)

/-! ### Modes, power and shedding -/

/-- R372, R374, R378, R379, R401: each row of ModeRequest, where its regions are in its From states and nothing else refuses it:
Status is InProgress, the request is kept, and the regions named move (or the part enters Standby or Dormant); and
MODE_REQUEST_DONE ends it. R372, R378, R401: a request is refused with a state conflict unless every region named is in one of its
From states; named here for each row, with the Reason for a region mode. -/
def Obligations.ModeRequestsActOrAreRefused : Prop :=
  (∀ (s : State) (h : Hdr) (i : Fin 16),
    let d := s.dev
    let begun := fun (d : Device) (v : Nat) => { d with modes := { d.modes with status := .inProgress, lastRequest := v } }
    let named := ([0, 1] : List RegionIx).filter fun r => d.modes.regions.testBit r.val
    let rows := fun (v : Nat) (row : Hdr → Instr) (f : Device → RegionIx → Device) =>
      firstRefusal (d.requestChecks v) = none → d.modes.regions % 4 ≠ 0 →
      Accepts (row h) s h i fun d => (named.foldl f (begun d v)).refreshMode
    (MayWrite d h i →
      rows 1 .modeRequestConfigure (fun d r => if d.regions[r].mode = .off then d.leaveOff r else d.setMode r .configure) ∧
      rows 2 .modeRequestReady (fun d r => d.setMode r .ready) ∧
      rows 3 .modeRequestCalibrate (fun d r => d.startCalibrate r) ∧
      rows 4 .modeRequestOff (fun d r => d.regionOff r) ∧
      rows 7 .resume (fun d r => d.onRegion r fun x => { x with resumeRequired := false }) ∧
      rows 8 .leaveFold (fun d r => d.leaveFoldMode r) ∧
      (firstRefusal (d.requestChecks 5) = none →
        Accepts (.modeRequestStandby h) s h i fun d => (begun d 5).enterStandby) ∧
      (firstRefusal (d.requestChecks 6) = none →
        Accepts (.modeRequestDormant h) s h i fun d => (begun d 6).enterDormant)) ∧
    (d.modes.status = .inProgress → Gives .modeRequestDone s { d with modes := { d.modes with status := .done } })) ∧
  (∀ (s : State) (h : Hdr) (i : Fin 16) (r : RegionIx) (v : Nat) (row : Hdr → Instr) (from' : List RMode),
    (v, row, from') ∈ [(1, Instr.modeRequestConfigure, [RMode.off, .ready]), (2, .modeRequestReady, [.configure]),
      (3, .modeRequestCalibrate, [.ready]), (4, .modeRequestOff, [.configure, .ready, .fold]), (7, .resume, [.ready]),
      (8, .leaveFold, [.fold])] →
    MayWrite s.dev h i → s.dev.modes.regions.testBit r.val = true → s.dev.regions[r].mode ∉ from' →
    Gives (row h) s ((s.dev.heard i h).refuses i h 5 1 0x2001 1))

/-- R372: the regions that an accepted request names are in its target mode, and the other region is in the mode it was in. -/
def Obligations.NamedRegionsReachTheirMode : Prop :=
  ∀ (s : State) (h : Hdr) (i : Fin 16) (v : Nat) (row : Hdr → Instr) (target : RMode),
    (v, row, target) ∈ [(2, Instr.modeRequestReady, RMode.ready), (3, .modeRequestCalibrate, .calibrate), (8, .leaveFold, .configure)] →
    MayWrite s.dev h i → firstRefusal (s.dev.requestChecks v) = none → s.dev.modes.regions % 4 ≠ 0 →
    Reaches (row h) s fun d => ∀ r : RegionIx,
      d.regions[r].mode = if s.dev.modes.regions.testBit r.val then target else s.dev.regions[r].mode

/-- R374, R433, R435 to R437: power and resets, where they change something: PORST_N rises and starts a power-up, with the lifecycle of
the fuses; it falls and puts everything at its defaults; a warm reset; VKEEP is lost and comes. -/
def Obligations.ResetsAct : Prop :=
  ∀ (s : State) (fact : Bool) (w : World),
    let d := s.dev
    (d.modes.vkeep = true → d.modes.porst = false → Gives (.porstNRelease fact w) s (
      ({ d with sec := { d.sec with life := d.sec.lifeFuse }
                modes := { d.modes with porst := true, factory := fact && decide (d.sec.lifeFuse = Life.openLife) } }).powerUp w .powerUp false)) ∧
    (d.modes.porst = true → Reaches .porstNFall s fun e =>
      e.modes = { vkeep := d.modes.vkeep, clrN := d.modes.clrN, foldinN := d.modes.foldinN } ∧
      (∀ i : Fin 16, e.link.sessions[i] = {}) ∧ e.link.dealer.session = 0 ∧
      e.link.dealer.epoch = (if d.modes.vkeep then (d.link.dealer.epoch + 1) % 2 ^ 32 else d.link.dealer.epoch) ∧
      (∀ r : RegionIx, e.regions[r].mode = .configure ∧ e.regions[r].die = .active ∧ e.regions[r].dram.bursts = d.regions[r].dram.bursts) ∧
      e.cells = Vector.replicate 128 Cell.reset ∧ e.log.slots = d.log.slots ∧ e.log.written = d.log.written ∧
      e.sec.lifeFuse = d.sec.lifeFuse ∧ e.sec.key = d.sec.key ∧ e.sec.tap = .idcode ∧ e.sec.unlocked = false) ∧
    (d.modes.coreDie = true → d.modes.clocks = true →
      let up := ((d.restart.resetDealer .warmReset).sameModeNote.powerUp w .warmReset false).abortedFrom d
      Gives (.warmReset w) s
        { up with link := { up.link with vacateCause := .warmReset
                                         lastChange := (d.restart.resetDealer .warmReset).link.lastChange } }) ∧
    (d.modes.vkeep = true → Reaches .vkeepBelowReset s fun e =>
      e.modes = { vkeep := false, porst := d.modes.porst, clrN := d.modes.clrN, foldinN := d.modes.foldinN } ∧
      e.log = {} ∧ e.link.dealer.epoch = Device.reset.link.dealer.epoch ∧ e.sec.lifeFuse = d.sec.lifeFuse ∧ e.sec.key = d.sec.key ∧
      (∀ r : RegionIx, e.regions[r].dram.bursts = d.regions[r].dram.bursts)) ∧
    (d.modes.vkeep = false → Gives .vkeepApplied s { d with modes := { d.modes with vkeep := true } })

/-- R33, R399: the pins and PLLs that raise a source of a collector while they are in their bad state: FOLDIN_N low, the main PLL
and a DDR PLL without lock. R183, R270, R383, R384, R439 to R443: reports and checks. A report of power is stored; temperatures
reach the units, the PHYs and the dies in turn, and the limits are judged; a staleness check ends with its items done, in the
order of R439. -/
def Obligations.PinsPllsAndReportsAct : Prop :=
  (∀ (s : State) (n : DramIx),
    let d := s.dev
    let r := dramRegion n
    let ddr := fun (locked : Bool) =>
      let e := d.onDram n fun c => { c with pllLocked := locked }
      e.setCause (.region r) 11 ((List.range 2).any fun i =>
        decide (e.drams[regionDram r i].state ≠ .absent) && !e.drams[regionDram r i].pllLocked)
    Gives .foldinNFall s (({ d with modes := { d.modes with foldinN := false } }).setCause .chip 3 true) ∧
    Gives .foldinNRise s (({ d with modes := { d.modes with foldinN := true } }).setCause .chip 3 false) ∧
    (d.modes.clocks = true →
      Gives .mainPllLoss s (({ d with modes := { d.modes with pllLocked := false } }).setCause .chip 0 true) ∧
      Gives .mainPllRelock s (({ d with modes := { d.modes with pllLocked := true } }).setCause .chip 0 false)) ∧
    (d.drams[n].state ≠ .absent → Gives (.ddrPllLoss n) s (ddr false) ∧ Gives (.ddrPllRelock n) s (ddr true))) ∧
  (∀ (s : State) (core dieA dieB total energy : Nat) (volts amps : List Int) (tc ta tb : Int) (units : List (Fin 136 × Int))
    (phy : List Int) (r : RegionIx) (corrected uncorrectable : Nat) (t0 t1 : TrainResult) (suspects : List Nat),
    let d := s.dev
    (d.modes.clocks = true → Gives (.powerReportUpdate core dieA dieB total energy volts amps) s
      { d with report := { d.report with core := core, dieA := dieA, dieB := dieB, total := total, energy := energy
                                         volts := volts, amps := amps, updateTime := d.now } }) ∧
    (d.modes.coreDie = true →
      let e := units.foldl (fun d u => d.unitTemp u.1 u.2) d
      let e := phy.zipIdx.foldl (fun (d : Device) t =>
        if h : t.2 < 4 then (if d.drams[t.2].state = .absent then d else d.phyTemp ⟨t.2, h⟩ t.1) else d) e
      Gives (.temperatureUpdate tc ta tb units phy) s (
        ({ e with report := { e.report with tempCore := tc, tempA := if e.dieOff 0 then e.report.tempA else ta
                                            tempB := if e.dieOff 1 then e.report.tempB else tb } }).dieLimits)) ∧
    (d.regions[r].stale.state = .running → d.regions[r].mode = .configure → d.shed.stage = 0 →
      let e := (((d.checkComb r corrected uncorrectable).checkChannel (regionDram r 0) t0).checkChannel (regionDram r 1) t1).checkCal
        r suspects
      Gives (.stalenessCheckDone r corrected uncorrectable t0 t1 suspects) s (
        (e.onRegion r fun x => { x with stale := { x.stale with state := .done, endTime := e.now } }).checkReady r)))

/-- R385 to R387, R389: shedding. A watched rail below warning starts stage S1, and one below its reset level goes to S5; a stage lasts
Dwell and the next one follows up to MaxStage while a rail is low; every watched rail above warning for 1 ms brings the part back; and
Peak is cleared on command. -/
def Obligations.SheddingActs : Prop :=
  ∀ (s : State) (h : Hdr) (i : Fin 16) (rail : Fin 12) (w : Data) (world : World),
    let d := s.dev
    let bit := (1 : BitVec 12) <<< rail.val
    (d.watched rail = true → d.shed.stage = 0 →
      Gives (.railBelowWarning rail) s ((((d.railFalls rail).beginEpisode).setStage 1).stageEffect 1)) ∧
    (d.watched rail = true → d.shed.stage ≠ 0 → Gives (.railBelowWarning rail) s (d.railFalls rail)) ∧
    Gives (.railAboveWarning rail) s { d with shed := { d.shed with cause := d.shed.cause &&& ~~~bit } } ∧
    (rail.val ≠ 11 → d.watched rail = true → d.shed.stage < 5 →
      Gives (.railBelowReset rail) s ((d.railFalls rail).raiseStage 5)) ∧
    (d.shed.stage ≠ 0 → d.shed.stage < d.shed.maxStage → d.shed.stage < 5 → d.railLow = true →
      Gives .shedStageAdvance s ((d.setStage (d.shed.stage + 1)).stageEffect (d.shed.stage + 1))) ∧
    (d.railLow = false → d.shed.stage = 1 ∨ d.shed.stage = 2 →
      let e := d.lowerStages.unshed12 d.shed.stage
      Gives (.shedRecovery world) s ({ e with shed := { e.shed with lastRestore := e.now } }).refreshMode) ∧
    (d.railLow = false → d.shed.stage = 3 →
      let e := ((d.endWaiting.unshedRegion 0).unshedRegion 1).lowerStages.unshed12 3
      Gives (.shedRecovery world) s ({ e with shed := { e.shed with lastRestore := e.now } }).refreshMode) ∧
    (d.railLow = false → d.shed.stage = 4 →
      let e := ((d.prepareReturn 0).prepareReturn 1).lowerStages.unshed12 4
      let f := { e with shed := e.shed.defaults }
      Gives (.shedRecovery world) s (if d.shed.autoRecover then f.wakeStandby .shedRecovery else f)) ∧
    (d.railLow = false → d.shed.stage = 5 →
      let f := { d.lowerStages with shed := d.lowerStages.shed.defaults }
      Gives (.shedRecovery world) s (if d.shed.autoRecover then f.powerUp world .shedRecovery world.dramHeld else f)) ∧
    (MayWrite d h i → w.len = 1 →
      (w.val = 1 → Accepts (.clearPeak h w) s h i fun d => { d with shed := { d.shed with peak := d.shed.stage } }) ∧
      (w.val = 0 → Accepts (.clearPeak h w) s h i id))

/-! ### Faults and the log -/

/-- R401, R402, R406, R408, R409: the commands of the collectors where no rule refuses them: a Clear of named sources, a parity error
of a collector, the commands of FaultSummary, and the injections of a part in Factory. -/
def Obligations.CollectorCommandsAct : Prop :=
  ∀ (s : State) (h : Hdr) (i : Fin 16) (col above : ColId) (w : Data) (n : Nat),
    let d := s.dev
    let bad := (List.range (sourceCount col)).any fun n =>
      w.val.testBit n && isCondition col n && ((d.sources col)[n]?.elim false (·.cause))
    let dark := match col with
      | .cell c => d.dieOff (cellRegion c)
      | .block b => d.dieOff (blockRegion b)
      | _ => false
    let failed := ((d.faultFold col (d.covered col)).resetCollector col).parityEntry col
    (MayWrite d h i → w.len = 4 → bad = false → dark = false →
      Accepts (.collectorClear h col w) s h i fun d =>
        (((List.range (sourceCount col)).filter fun n => w.val.testBit n).foldl (fun d n => d.clearSource col n) d).refreshMode) ∧
    (d.collectorOn col = true →
      (parityAbove col = some (above, n) →
        Gives (.collectorParityError col) s (((failed.markFailed above (colInstance col)).raise above n).refreshMode)) ∧
      (parityAbove col = none →
        Gives (.collectorParityError col) s (({ failed with chip := { failed.chip with chipParity := true } }).refreshMode))) ∧
    (MayWrite d h i →
      Accepts (.clearBalanceVoid h) s h i (fun d =>
        let d := { d with chip := { d.chip with voidEvent := false, voidCredit := false, voidLog := false } }
        if d.shed.cause ≠ 0 ∨ d.modes.factory then d.voidChip true true true else d) ∧
      Accepts (.clearChipParity h) s h i (fun d => ({ d with chip := { d.chip with chipParity := false } }).refreshMode)) ∧
    (MayWrite d h i → d.modes.factory = true → codeSource d.chip.injSource = some (col, n) →
      ((isCondition col n && d.collectorOn col) = false → Accepts (.inject h) s h i fun d => Device.injectEvents col n d.chip.injCount d) ∧
      (isCondition col n = true → d.collectorOn col = true → Accepts (.inject h) s h i fun d =>
        let d := d.onSource col n fun s => { s with cause := true }
        Device.injectEvents col n d.chip.injCount { d with
          chip := { d.chip with injActive := d.chip.injActive.filter (· ≠ (col, n)) ++ [(col, n)] } }) ∧
      Accepts (.injectParity h) s h i (fun d => d.parityError col)) ∧
    (∀ rest, d.chip.injActive = (col, n) :: rest →
      let e := d.onSource col n fun s => { s with cause := d.realCause col n }
      Gives .injectionHoldExpiry s { e with chip := { e.chip with injActive := rest } })

/-- R392, R395, R396, R412: an event of a source that does not classify as severe sets Sticky, counts (to the limit), joins the
window, and queues one entry where Sticky was clear; it changes nothing else. R392: while FCLK runs, a second event of the source in
the same FCLK cycle changes nothing. R401: a Clear takes Sticky, the severity and the window of a source away and keeps its count and
its configuration; the collector's other sources stay as they were. R403: where the source has had its only event in this FCLK cycle,
the Clear acts first, and the event stays. -/
def Obligations.SourcesCountAndClear : Prop :=
  (∀ (d : Device) (col : ColId) (n : Nat) (x : Source),
    (d.sources col)[n]? = some x → d.collectorOn col = true → d.modes.clocks = true → x.cycle ≠ some d.fclk →
    let y := { x with sticky := true, count := min (2 ^ 32 - 1) (x.count + 1), times := d.now :: x.times, cycle := some d.fclk }
    x.severe = true ∨ y.classifies = false →
    let e := d.onSource col n fun _ => y
    d.raise col n = (if x.sticky then e else e.addLog 1 (sourceCode col n) (e.faultData col y)) ∧
      (e.sources col)[n]? = some y ∧ ∀ k, k ≠ n → (e.sources col)[k]? = (d.sources col)[k]?) ∧
  (∀ (d : Device) (col : ColId) (n : Nat) (x : Source),
    (d.sources col)[n]? = some x → d.modes.clocks = true → x.cycle = some d.fclk → d.raise col n = d) ∧
  (∀ (d : Device) (col : ColId) (n : Nat) (x : Source),
    (d.sources col)[n]? = some x → d.modes.clocks = true →
    let e := d.clearSource col n
    (x.cycle ≠ some d.fclk → (e.sources col)[n]? = some { x with sticky := false, severe := false, times := [], cycle := none }) ∧
    (x.cycle = some d.fclk → x.times.length = 1 → (e.sources col)[n]? = some x) ∧
    (x.cycle ≠ some d.fclk ∨ x.times.length = 1 →
      (∀ k, k ≠ n → (e.sources col)[k]? = (d.sources col)[k]?) ∧ ∀ other, other ≠ col → e.sources other = d.sources other))

/-- R410 to R412, R414: the Keeper takes the oldest entry of the queue into slot Written mod 2 048 of the ring, as R410 lays it out, under
two D72 codewords with fold word 0, and tells of entries that were skipped; a Clear empties the log but for the entry that names it. -/
def Obligations.TheLogIsWritten : Prop :=
  ∀ (s : State) (h : Hdr) (i : Fin 16) (x : LogEntry) (l : List LogEntry),
    let d := s.dev
    let g := d.log
    let laid := fun (e : LogEntry) =>
      e.data + e.source * 2 ^ 44 + e.level * 2 ^ 60 + (if e.disciplined then 1 else 0) * 2 ^ 63 + e.time * 2 ^ 64
    let slot := fun (e : LogEntry) =>
      ({ word := BitVec.ofNat 128 (laid e)
         chk := BitVec.ofNat 16 (d72 (laid e % 2 ^ 64) 0 + 256 * d72 (laid e % 2 ^ 128 / 2 ^ 64 % 2 ^ 64) 0) } : LogSlot)
    let entered := { d with
      logQueue := l
      log := { g with slots := putKey (g.written % 2048) (slot x) g.slots, written := g.written + 1, held := min (g.written + 1) 2048
                      overwritten := if g.written < 2048 then g.overwritten else g.overwritten + 1 } }
    (d.modes.vkeep = true → d.logQueue = x :: l →
      (d.logSkipped = 0 → Gives .logEntryWrite s entered) ∧
      (d.logSkipped ≠ 0 → Gives .logEntryWrite s (({ entered with logSkipped := 0 }).addNote 0 0xA d.logSkipped))) ∧
    (MayWrite d h i → Accepts (.logClear h) s h i fun d =>
      { d with log :=
          { slots := [(0, slot { time := d.now, disciplined := d.disciplined, level := 0, source := 0x8009, data := 0 })], written := 1, held := 1
            lastClear := d.now } })
end

