-- ==== Sys2Proof/Laws/Memory.lean ====
section
/-!
SUPPORT. The lists by number that hold DRAM, the Comb, the log ring and unit writes: a key reads what was last put there, others
read as before, and every operation that writes one of them keeps its one form (Memory.wf).
-/
namespace Sys2Proof.Machine

/-! ### Lists by key -/

variable {α : Type}

@[simp] theorem getKey_putKey_self (k : Nat) (v : α) (l : List (Nat × α)) : getKey k (putKey k v l) = some v := by
  induction l with
  | nil => simp [putKey, getKey]
  | cons x l ih =>
    obtain ⟨j, y⟩ := x
    simp only [putKey]
    split
    · simp [getKey]
    · split
      · simp [getKey]
      · rename_i h; simp [getKey, Ne.symm h, ih]

theorem getKey_putKey_of_ne (j k : Nat) (v : α) (l : List (Nat × α)) (h : j ≠ k) : getKey j (putKey k v l) = getKey j l := by
  induction l with
  | nil => simp [putKey, getKey, h.symm]
  | cons x l ih =>
    obtain ⟨i, y⟩ := x
    simp only [putKey]
    split
    · simp [getKey, h.symm]
    · split
      · rename_i e; subst e; simp [getKey, h.symm]
      · simp [getKey, ih]

/-- Every key of a list lies above a number. -/
def above (k : Nat) (l : List (Nat × α)) : Prop := ∀ x ∈ l, k < x.1

theorem rising_cons (k : Nat) (v : α) (l : List (Nat × α)) : rising ((k, v) :: l) = true ↔ above k l ∧ rising l = true := by
  induction l generalizing k v with
  | nil => simp [rising, above]
  | cons x l ih =>
    obtain ⟨j, y⟩ := x
    simp only [rising, Bool.and_eq_true, decide_eq_true_eq, above, List.mem_cons]
    constructor
    · rintro ⟨hk, hr⟩
      refine ⟨?_, hr⟩
      rintro z (rfl | hz)
      · exact hk
      · exact Nat.lt_trans hk (((ih j y).1 hr).1 z hz)
    · rintro ⟨ha, hr⟩
      exact ⟨ha (j, y) (.inl rfl), hr⟩

theorem mem_putKey (k : Nat) (v : α) (l : List (Nat × α)) (x : Nat × α) (h : x ∈ putKey k v l) : x = (k, v) ∨ x ∈ l := by
  induction l with
  | nil => simp [putKey] at h; exact .inl h
  | cons y l ih =>
    obtain ⟨j, y⟩ := y
    simp only [putKey] at h
    split at h
    · simp at h; rcases h with h | h | h <;> simp [h]
    · split at h
      · simp at h; rcases h with h | h <;> simp [h]
      · simp at h; rcases h with h | h
        · simp [h]
        · rcases ih h with h | h <;> simp [h]

theorem rising_putKey (k : Nat) (v : α) (l : List (Nat × α)) (h : rising l = true) : rising (putKey k v l) = true := by
  induction l with
  | nil => rfl
  | cons x l ih =>
    obtain ⟨j, y⟩ := x
    have hx := (rising_cons j y l).1 h
    simp only [putKey]
    split
    · rename_i hk
      refine (rising_cons ..).2 ⟨?_, h⟩
      intro z hz
      rcases List.mem_cons.1 hz with rfl | hz
      · exact hk
      · exact Nat.lt_trans hk (hx.1 z hz)
    · split
      · rename_i e; subst e; exact (rising_cons ..).2 hx
      · rename_i h1 h2
        refine (rising_cons ..).2 ⟨?_, ih hx.2⟩
        intro z hz
        rcases mem_putKey k v l z hz with rfl | hz
        · exact Nat.lt_of_le_of_ne (Nat.not_lt.1 h1) (Ne.symm h2)
        · exact hx.1 z hz

theorem rising_map (f : Nat × α → α) (l : List (Nat × α)) (h : rising l = true) : rising (l.map fun x => (x.1, f x)) = true := by
  induction l with
  | nil => rfl
  | cons x l ih =>
    obtain ⟨j, y⟩ := x
    have hx := (rising_cons j y l).1 h
    refine (rising_cons ..).2 ⟨?_, ih hx.2⟩
    intro z hz
    obtain ⟨w, hw, rfl⟩ := List.mem_map.1 hz
    exact hx.1 w hw

theorem rising_filter (p : Nat × α → Bool) (l : List (Nat × α)) (h : rising l = true) : rising (l.filter p) = true := by
  induction l with
  | nil => rfl
  | cons x l ih =>
    obtain ⟨j, y⟩ := x
    have hx := (rising_cons j y l).1 h
    simp only [List.filter_cons]
    split
    · exact (rising_cons ..).2 ⟨fun z hz => hx.1 z (List.mem_filter.1 hz).1, ih hx.2⟩
    · exact ih hx.2

theorem rising_append (l m : List (Nat × α)) (hl : rising l = true) (hm : rising m = true)
    (h : ∀ x ∈ l, ∀ y ∈ m, x.1 < y.1) : rising (l ++ m) = true := by
  induction l with
  | nil => exact hm
  | cons x l ih =>
    obtain ⟨j, y⟩ := x
    have hx := (rising_cons j y l).1 hl
    refine (rising_cons ..).2 ⟨?_, ih hx.2 fun a ha b hb => h a (List.mem_cons_of_mem _ ha) b hb⟩
    intro z hz
    rcases List.mem_append.1 hz with hz | hz
    · exact hx.1 z hz
    · exact h (j, y) (List.mem_cons_self ..) z hz

/-! ### What keeps the form -/

/-- Two devices whose memories are equal are alike in form. -/
theorem Memory.wf_congr {d e : Device} (hr : ∀ r : RegionIx, e.regions[r].memoryWf = d.regions[r].memoryWf)
    (hl : e.log.slots = d.log.slots) (hu : e.ryu.unitWrites = d.ryu.unitWrites) : Memory.wf e = Memory.wf d := by
  simp only [Memory.wf, hr, hl, hu]

theorem Memory.wf_iff (d : Device) : Memory.wf d = true ↔
    (∀ r : RegionIx, d.regions[r].memoryWf = true) ∧ rising d.log.slots = true ∧ rising d.ryu.unitWrites = true := by
  simp only [Memory.wf, Bool.and_eq_true, and_assoc]
  constructor
  · rintro ⟨h0, h1, hl, hu⟩
    refine ⟨fun r => ?_, hl, hu⟩
    rcases r with ⟨r, hr⟩
    rcases (by omega : r = 0 ∨ r = 1) with rfl | rfl
    · exact h0
    · exact h1
  · rintro ⟨h, hl, hu⟩
    exact ⟨h 0, h 1, hl, hu⟩

/-- A region that keeps its form keeps that of the device. -/
theorem Device.onRegion_wf (d : Device) (r : RegionIx) (f : Region → Region) (h : Memory.wf d = true)
    (hf : d.regions[r].memoryWf = true → (f d.regions[r]).memoryWf = true) : Memory.wf (d.onRegion r f) = true := by
  rw [Memory.wf_iff] at h ⊢
  refine ⟨fun k => ?_, h.2⟩
  by_cases e : k = r
  · subst e; simpa [Device.onRegion] using hf (h.1 k)
  · have : (d.onRegion r f).regions[k] = d.regions[k] := by
      simp only [Device.onRegion, Fin.getElem_fin]
      exact Vector.getElem_set_ne _ _ (fun e' => e (Fin.ext e'.symm))
    rw [this]; exact h.1 k

@[simp] theorem Device.nextFree_wf (d : Device) : Memory.wf d.nextFree = Memory.wf d := rfl

/-- A change of a region's DRAM that keeps the form of its bursts keeps that of the device. -/
theorem Device.onMem_wf (d : Device) (r : RegionIx) (f : Dram → Dram) (h : Memory.wf d = true)
    (hf : rising d.regions[r].dram.bursts = true → rising (f d.regions[r].dram).bursts = true) : Memory.wf (d.onMem r f) = true := by
  refine Device.onRegion_wf d r _ h fun hx => ?_
  simp only [Region.memoryWf, Bool.and_eq_true] at hx ⊢
  exact ⟨⟨hf hx.1.1, hx.1.2⟩, hx.2⟩

theorem Device.storeBurst_wf (d : Device) (r : RegionIx) (g data : Nat) (h : Memory.wf d = true) :
    Memory.wf (d.storeBurst r g data) = true := by
  unfold Device.storeBurst
  split
  · exact h
  · exact Device.onMem_wf _ r _ h (rising_putKey _ _ _)

theorem Device.loseAll_wf (d : Device) (r : RegionIx) (h : Memory.wf d = true) : Memory.wf (d.loseAll r) = true := by
  unfold Device.loseAll
  rw [Device.nextFree_wf]
  exact Device.onMem_wf d r _ h (rising_map (fun x => openBurst (Config.lostBurst d.free x.1)) _)

theorem Log.write_rising (l : Log) (e : LogEntry) (h : rising l.slots = true) : rising (l.write e).slots = true :=
  rising_putKey _ _ _ h

theorem Device.clearLog_wf (d : Device) (h : Memory.wf d = true) : Memory.wf d.clearLog = true := by
  rw [Memory.wf_iff] at h ⊢
  exact ⟨h.1, Log.write_rising _ _ rfl, h.2.2⟩

theorem Log.strike_rising (l : Log) (e : SlotErr) (h : rising l.slots = true) : rising (l.strike e).slots = true :=
  rising_map (fun x : Nat × LogSlot => if x.1 = e.slot.val then ({ word := x.2.word ^^^ e.word, chk := x.2.chk ^^^ e.chk } : LogSlot) else x.2) _ h

theorem Device.strikeLog_wf (d : Device) (l : List SlotErr) (h : Memory.wf d = true) : Memory.wf (d.strikeLog l) = true := by
  rw [Memory.wf_iff] at h ⊢
  refine ⟨h.1, ?_, h.2.2⟩
  suffices ∀ x : Log, rising x.slots = true → rising (l.foldl Log.strike x).slots = true from this _ h.2.1
  induction l with
  | nil => exact fun _ hx => hx
  | cons e l ih => exact fun x hx => ih _ (Log.strike_rising x e hx)

/-- The machine right after reset has the form. -/
theorem Memory.wf_reset : Memory.wf State.reset.dev = true := by decide +kernel

end Sys2Proof.Machine
end

