-- ==== Sys2Proof/Laws/State.lean ====
section
/-!
SUPPORT. What each named update of the device leaves as it was: one lemma for each field and update, true by unfolding.
-/
namespace Sys2Proof.Machine

variable (d : Device)

@[simp] theorem Device.onCell_time (c : CellIx) (f : Cell → Cell) : (d.onCell c f).time = d.time := rfl
@[simp] theorem Device.onCell_keeper2 (c : CellIx) (f : Cell → Cell) : (d.onCell c f).keeper2 = d.keeper2 := rfl
@[simp] theorem Device.onCell_free (c : CellIx) (f : Cell → Cell) : (d.onCell c f).free = d.free := rfl
@[simp] theorem Device.onCell_modes (c : CellIx) (f : Cell → Cell) : (d.onCell c f).modes = d.modes := rfl
@[simp] theorem Device.onCell_report (c : CellIx) (f : Cell → Cell) : (d.onCell c f).report = d.report := rfl
@[simp] theorem Device.onCell_shed (c : CellIx) (f : Cell → Cell) : (d.onCell c f).shed = d.shed := rfl
@[simp] theorem Device.onCell_regions (c : CellIx) (f : Cell → Cell) : (d.onCell c f).regions = d.regions := rfl
@[simp] theorem Device.onCell_blocks (c : CellIx) (f : Cell → Cell) : (d.onCell c f).blocks = d.blocks := rfl
@[simp] theorem Device.onCell_drams (c : CellIx) (f : Cell → Cell) : (d.onCell c f).drams = d.drams := rfl
@[simp] theorem Device.onCell_fenceIssued (c : CellIx) (f : Cell → Cell) : (d.onCell c f).fenceIssued = d.fenceIssued := rfl
@[simp] theorem Device.onCell_fenceDone (c : CellIx) (f : Cell → Cell) : (d.onCell c f).fenceDone = d.fenceDone := rfl
@[simp] theorem Device.onCell_fences (c : CellIx) (f : Cell → Cell) : (d.onCell c f).fences = d.fences := rfl
@[simp] theorem Device.onCell_waggle (c : CellIx) (f : Cell → Cell) : (d.onCell c f).waggle = d.waggle := rfl
@[simp] theorem Device.onCell_ryu (c : CellIx) (f : Cell → Cell) : (d.onCell c f).ryu = d.ryu := rfl
@[simp] theorem Device.onCell_link (c : CellIx) (f : Cell → Cell) : (d.onCell c f).link = d.link := rfl
@[simp] theorem Device.onCell_ptp (c : CellIx) (f : Cell → Cell) : (d.onCell c f).ptp = d.ptp := rfl
@[simp] theorem Device.onCell_sched (c : CellIx) (f : Cell → Cell) : (d.onCell c f).sched = d.sched := rfl
@[simp] theorem Device.onCell_chip (c : CellIx) (f : Cell → Cell) : (d.onCell c f).chip = d.chip := rfl
@[simp] theorem Device.onCell_log (c : CellIx) (f : Cell → Cell) : (d.onCell c f).log = d.log := rfl
@[simp] theorem Device.onCell_logQueue (c : CellIx) (f : Cell → Cell) : (d.onCell c f).logQueue = d.logQueue := rfl
@[simp] theorem Device.onCell_logSkipped (c : CellIx) (f : Cell → Cell) : (d.onCell c f).logSkipped = d.logSkipped := rfl
@[simp] theorem Device.onCell_sec (c : CellIx) (f : Cell → Cell) : (d.onCell c f).sec = d.sec := rfl

@[simp] theorem Device.onCells_time (p : Nat → Bool) (f : Cell → Cell) : (d.onCells p f).time = d.time := rfl
@[simp] theorem Device.onCells_keeper2 (p : Nat → Bool) (f : Cell → Cell) : (d.onCells p f).keeper2 = d.keeper2 := rfl
@[simp] theorem Device.onCells_free (p : Nat → Bool) (f : Cell → Cell) : (d.onCells p f).free = d.free := rfl
@[simp] theorem Device.onCells_modes (p : Nat → Bool) (f : Cell → Cell) : (d.onCells p f).modes = d.modes := rfl
@[simp] theorem Device.onCells_report (p : Nat → Bool) (f : Cell → Cell) : (d.onCells p f).report = d.report := rfl
@[simp] theorem Device.onCells_shed (p : Nat → Bool) (f : Cell → Cell) : (d.onCells p f).shed = d.shed := rfl
@[simp] theorem Device.onCells_regions (p : Nat → Bool) (f : Cell → Cell) : (d.onCells p f).regions = d.regions := rfl
@[simp] theorem Device.onCells_blocks (p : Nat → Bool) (f : Cell → Cell) : (d.onCells p f).blocks = d.blocks := rfl
@[simp] theorem Device.onCells_drams (p : Nat → Bool) (f : Cell → Cell) : (d.onCells p f).drams = d.drams := rfl
@[simp] theorem Device.onCells_fenceIssued (p : Nat → Bool) (f : Cell → Cell) : (d.onCells p f).fenceIssued = d.fenceIssued := rfl
@[simp] theorem Device.onCells_fenceDone (p : Nat → Bool) (f : Cell → Cell) : (d.onCells p f).fenceDone = d.fenceDone := rfl
@[simp] theorem Device.onCells_fences (p : Nat → Bool) (f : Cell → Cell) : (d.onCells p f).fences = d.fences := rfl
@[simp] theorem Device.onCells_waggle (p : Nat → Bool) (f : Cell → Cell) : (d.onCells p f).waggle = d.waggle := rfl
@[simp] theorem Device.onCells_ryu (p : Nat → Bool) (f : Cell → Cell) : (d.onCells p f).ryu = d.ryu := rfl
@[simp] theorem Device.onCells_link (p : Nat → Bool) (f : Cell → Cell) : (d.onCells p f).link = d.link := rfl
@[simp] theorem Device.onCells_ptp (p : Nat → Bool) (f : Cell → Cell) : (d.onCells p f).ptp = d.ptp := rfl
@[simp] theorem Device.onCells_sched (p : Nat → Bool) (f : Cell → Cell) : (d.onCells p f).sched = d.sched := rfl
@[simp] theorem Device.onCells_chip (p : Nat → Bool) (f : Cell → Cell) : (d.onCells p f).chip = d.chip := rfl
@[simp] theorem Device.onCells_log (p : Nat → Bool) (f : Cell → Cell) : (d.onCells p f).log = d.log := rfl
@[simp] theorem Device.onCells_logQueue (p : Nat → Bool) (f : Cell → Cell) : (d.onCells p f).logQueue = d.logQueue := rfl
@[simp] theorem Device.onCells_logSkipped (p : Nat → Bool) (f : Cell → Cell) : (d.onCells p f).logSkipped = d.logSkipped := rfl
@[simp] theorem Device.onCells_sec (p : Nat → Bool) (f : Cell → Cell) : (d.onCells p f).sec = d.sec := rfl

@[simp] theorem Device.onBlock_time (b : BlockIx) (f : Block → Block) : (d.onBlock b f).time = d.time := rfl
@[simp] theorem Device.onBlock_keeper2 (b : BlockIx) (f : Block → Block) : (d.onBlock b f).keeper2 = d.keeper2 := rfl
@[simp] theorem Device.onBlock_free (b : BlockIx) (f : Block → Block) : (d.onBlock b f).free = d.free := rfl
@[simp] theorem Device.onBlock_modes (b : BlockIx) (f : Block → Block) : (d.onBlock b f).modes = d.modes := rfl
@[simp] theorem Device.onBlock_report (b : BlockIx) (f : Block → Block) : (d.onBlock b f).report = d.report := rfl
@[simp] theorem Device.onBlock_shed (b : BlockIx) (f : Block → Block) : (d.onBlock b f).shed = d.shed := rfl
@[simp] theorem Device.onBlock_regions (b : BlockIx) (f : Block → Block) : (d.onBlock b f).regions = d.regions := rfl
@[simp] theorem Device.onBlock_cells (b : BlockIx) (f : Block → Block) : (d.onBlock b f).cells = d.cells := rfl
@[simp] theorem Device.onBlock_drams (b : BlockIx) (f : Block → Block) : (d.onBlock b f).drams = d.drams := rfl
@[simp] theorem Device.onBlock_fenceIssued (b : BlockIx) (f : Block → Block) : (d.onBlock b f).fenceIssued = d.fenceIssued := rfl
@[simp] theorem Device.onBlock_fenceDone (b : BlockIx) (f : Block → Block) : (d.onBlock b f).fenceDone = d.fenceDone := rfl
@[simp] theorem Device.onBlock_fences (b : BlockIx) (f : Block → Block) : (d.onBlock b f).fences = d.fences := rfl
@[simp] theorem Device.onBlock_waggle (b : BlockIx) (f : Block → Block) : (d.onBlock b f).waggle = d.waggle := rfl
@[simp] theorem Device.onBlock_ryu (b : BlockIx) (f : Block → Block) : (d.onBlock b f).ryu = d.ryu := rfl
@[simp] theorem Device.onBlock_link (b : BlockIx) (f : Block → Block) : (d.onBlock b f).link = d.link := rfl
@[simp] theorem Device.onBlock_ptp (b : BlockIx) (f : Block → Block) : (d.onBlock b f).ptp = d.ptp := rfl
@[simp] theorem Device.onBlock_sched (b : BlockIx) (f : Block → Block) : (d.onBlock b f).sched = d.sched := rfl
@[simp] theorem Device.onBlock_chip (b : BlockIx) (f : Block → Block) : (d.onBlock b f).chip = d.chip := rfl
@[simp] theorem Device.onBlock_log (b : BlockIx) (f : Block → Block) : (d.onBlock b f).log = d.log := rfl
@[simp] theorem Device.onBlock_logQueue (b : BlockIx) (f : Block → Block) : (d.onBlock b f).logQueue = d.logQueue := rfl
@[simp] theorem Device.onBlock_logSkipped (b : BlockIx) (f : Block → Block) : (d.onBlock b f).logSkipped = d.logSkipped := rfl
@[simp] theorem Device.onBlock_sec (b : BlockIx) (f : Block → Block) : (d.onBlock b f).sec = d.sec := rfl

@[simp] theorem Device.onRegion_time (r : RegionIx) (f : Region → Region) : (d.onRegion r f).time = d.time := rfl
@[simp] theorem Device.onRegion_keeper2 (r : RegionIx) (f : Region → Region) : (d.onRegion r f).keeper2 = d.keeper2 := rfl
@[simp] theorem Device.onRegion_free (r : RegionIx) (f : Region → Region) : (d.onRegion r f).free = d.free := rfl
@[simp] theorem Device.onRegion_modes (r : RegionIx) (f : Region → Region) : (d.onRegion r f).modes = d.modes := rfl
@[simp] theorem Device.onRegion_report (r : RegionIx) (f : Region → Region) : (d.onRegion r f).report = d.report := rfl
@[simp] theorem Device.onRegion_shed (r : RegionIx) (f : Region → Region) : (d.onRegion r f).shed = d.shed := rfl
@[simp] theorem Device.onRegion_blocks (r : RegionIx) (f : Region → Region) : (d.onRegion r f).blocks = d.blocks := rfl
@[simp] theorem Device.onRegion_cells (r : RegionIx) (f : Region → Region) : (d.onRegion r f).cells = d.cells := rfl
@[simp] theorem Device.onRegion_drams (r : RegionIx) (f : Region → Region) : (d.onRegion r f).drams = d.drams := rfl
@[simp] theorem Device.onRegion_fenceIssued (r : RegionIx) (f : Region → Region) : (d.onRegion r f).fenceIssued = d.fenceIssued := rfl
@[simp] theorem Device.onRegion_fenceDone (r : RegionIx) (f : Region → Region) : (d.onRegion r f).fenceDone = d.fenceDone := rfl
@[simp] theorem Device.onRegion_fences (r : RegionIx) (f : Region → Region) : (d.onRegion r f).fences = d.fences := rfl
@[simp] theorem Device.onRegion_waggle (r : RegionIx) (f : Region → Region) : (d.onRegion r f).waggle = d.waggle := rfl
@[simp] theorem Device.onRegion_ryu (r : RegionIx) (f : Region → Region) : (d.onRegion r f).ryu = d.ryu := rfl
@[simp] theorem Device.onRegion_link (r : RegionIx) (f : Region → Region) : (d.onRegion r f).link = d.link := rfl
@[simp] theorem Device.onRegion_ptp (r : RegionIx) (f : Region → Region) : (d.onRegion r f).ptp = d.ptp := rfl
@[simp] theorem Device.onRegion_sched (r : RegionIx) (f : Region → Region) : (d.onRegion r f).sched = d.sched := rfl
@[simp] theorem Device.onRegion_chip (r : RegionIx) (f : Region → Region) : (d.onRegion r f).chip = d.chip := rfl
@[simp] theorem Device.onRegion_log (r : RegionIx) (f : Region → Region) : (d.onRegion r f).log = d.log := rfl
@[simp] theorem Device.onRegion_logQueue (r : RegionIx) (f : Region → Region) : (d.onRegion r f).logQueue = d.logQueue := rfl
@[simp] theorem Device.onRegion_logSkipped (r : RegionIx) (f : Region → Region) : (d.onRegion r f).logSkipped = d.logSkipped := rfl
@[simp] theorem Device.onRegion_sec (r : RegionIx) (f : Region → Region) : (d.onRegion r f).sec = d.sec := rfl

@[simp] theorem Device.onTally_time (r : RegionIx) (f : Tally → Tally) : (d.onTally r f).time = d.time := rfl
@[simp] theorem Device.onTally_keeper2 (r : RegionIx) (f : Tally → Tally) : (d.onTally r f).keeper2 = d.keeper2 := rfl
@[simp] theorem Device.onTally_free (r : RegionIx) (f : Tally → Tally) : (d.onTally r f).free = d.free := rfl
@[simp] theorem Device.onTally_modes (r : RegionIx) (f : Tally → Tally) : (d.onTally r f).modes = d.modes := rfl
@[simp] theorem Device.onTally_report (r : RegionIx) (f : Tally → Tally) : (d.onTally r f).report = d.report := rfl
@[simp] theorem Device.onTally_shed (r : RegionIx) (f : Tally → Tally) : (d.onTally r f).shed = d.shed := rfl
@[simp] theorem Device.onTally_blocks (r : RegionIx) (f : Tally → Tally) : (d.onTally r f).blocks = d.blocks := rfl
@[simp] theorem Device.onTally_cells (r : RegionIx) (f : Tally → Tally) : (d.onTally r f).cells = d.cells := rfl
@[simp] theorem Device.onTally_drams (r : RegionIx) (f : Tally → Tally) : (d.onTally r f).drams = d.drams := rfl
@[simp] theorem Device.onTally_fenceIssued (r : RegionIx) (f : Tally → Tally) : (d.onTally r f).fenceIssued = d.fenceIssued := rfl
@[simp] theorem Device.onTally_fenceDone (r : RegionIx) (f : Tally → Tally) : (d.onTally r f).fenceDone = d.fenceDone := rfl
@[simp] theorem Device.onTally_fences (r : RegionIx) (f : Tally → Tally) : (d.onTally r f).fences = d.fences := rfl
@[simp] theorem Device.onTally_waggle (r : RegionIx) (f : Tally → Tally) : (d.onTally r f).waggle = d.waggle := rfl
@[simp] theorem Device.onTally_ryu (r : RegionIx) (f : Tally → Tally) : (d.onTally r f).ryu = d.ryu := rfl
@[simp] theorem Device.onTally_link (r : RegionIx) (f : Tally → Tally) : (d.onTally r f).link = d.link := rfl
@[simp] theorem Device.onTally_ptp (r : RegionIx) (f : Tally → Tally) : (d.onTally r f).ptp = d.ptp := rfl
@[simp] theorem Device.onTally_sched (r : RegionIx) (f : Tally → Tally) : (d.onTally r f).sched = d.sched := rfl
@[simp] theorem Device.onTally_chip (r : RegionIx) (f : Tally → Tally) : (d.onTally r f).chip = d.chip := rfl
@[simp] theorem Device.onTally_log (r : RegionIx) (f : Tally → Tally) : (d.onTally r f).log = d.log := rfl
@[simp] theorem Device.onTally_logQueue (r : RegionIx) (f : Tally → Tally) : (d.onTally r f).logQueue = d.logQueue := rfl
@[simp] theorem Device.onTally_logSkipped (r : RegionIx) (f : Tally → Tally) : (d.onTally r f).logSkipped = d.logSkipped := rfl
@[simp] theorem Device.onTally_sec (r : RegionIx) (f : Tally → Tally) : (d.onTally r f).sec = d.sec := rfl

@[simp] theorem Device.onMem_time (r : RegionIx) (f : Dram → Dram) : (d.onMem r f).time = d.time := rfl
@[simp] theorem Device.onMem_keeper2 (r : RegionIx) (f : Dram → Dram) : (d.onMem r f).keeper2 = d.keeper2 := rfl
@[simp] theorem Device.onMem_free (r : RegionIx) (f : Dram → Dram) : (d.onMem r f).free = d.free := rfl
@[simp] theorem Device.onMem_modes (r : RegionIx) (f : Dram → Dram) : (d.onMem r f).modes = d.modes := rfl
@[simp] theorem Device.onMem_report (r : RegionIx) (f : Dram → Dram) : (d.onMem r f).report = d.report := rfl
@[simp] theorem Device.onMem_shed (r : RegionIx) (f : Dram → Dram) : (d.onMem r f).shed = d.shed := rfl
@[simp] theorem Device.onMem_blocks (r : RegionIx) (f : Dram → Dram) : (d.onMem r f).blocks = d.blocks := rfl
@[simp] theorem Device.onMem_cells (r : RegionIx) (f : Dram → Dram) : (d.onMem r f).cells = d.cells := rfl
@[simp] theorem Device.onMem_drams (r : RegionIx) (f : Dram → Dram) : (d.onMem r f).drams = d.drams := rfl
@[simp] theorem Device.onMem_fenceIssued (r : RegionIx) (f : Dram → Dram) : (d.onMem r f).fenceIssued = d.fenceIssued := rfl
@[simp] theorem Device.onMem_fenceDone (r : RegionIx) (f : Dram → Dram) : (d.onMem r f).fenceDone = d.fenceDone := rfl
@[simp] theorem Device.onMem_fences (r : RegionIx) (f : Dram → Dram) : (d.onMem r f).fences = d.fences := rfl
@[simp] theorem Device.onMem_waggle (r : RegionIx) (f : Dram → Dram) : (d.onMem r f).waggle = d.waggle := rfl
@[simp] theorem Device.onMem_ryu (r : RegionIx) (f : Dram → Dram) : (d.onMem r f).ryu = d.ryu := rfl
@[simp] theorem Device.onMem_link (r : RegionIx) (f : Dram → Dram) : (d.onMem r f).link = d.link := rfl
@[simp] theorem Device.onMem_ptp (r : RegionIx) (f : Dram → Dram) : (d.onMem r f).ptp = d.ptp := rfl
@[simp] theorem Device.onMem_sched (r : RegionIx) (f : Dram → Dram) : (d.onMem r f).sched = d.sched := rfl
@[simp] theorem Device.onMem_chip (r : RegionIx) (f : Dram → Dram) : (d.onMem r f).chip = d.chip := rfl
@[simp] theorem Device.onMem_log (r : RegionIx) (f : Dram → Dram) : (d.onMem r f).log = d.log := rfl
@[simp] theorem Device.onMem_logQueue (r : RegionIx) (f : Dram → Dram) : (d.onMem r f).logQueue = d.logQueue := rfl
@[simp] theorem Device.onMem_logSkipped (r : RegionIx) (f : Dram → Dram) : (d.onMem r f).logSkipped = d.logSkipped := rfl
@[simp] theorem Device.onMem_sec (r : RegionIx) (f : Dram → Dram) : (d.onMem r f).sec = d.sec := rfl

@[simp] theorem Device.onRun_time (r : RegionIx) (f : Run → Run) : (d.onRun r f).time = d.time := rfl
@[simp] theorem Device.onRun_keeper2 (r : RegionIx) (f : Run → Run) : (d.onRun r f).keeper2 = d.keeper2 := rfl
@[simp] theorem Device.onRun_free (r : RegionIx) (f : Run → Run) : (d.onRun r f).free = d.free := rfl
@[simp] theorem Device.onRun_modes (r : RegionIx) (f : Run → Run) : (d.onRun r f).modes = d.modes := rfl
@[simp] theorem Device.onRun_report (r : RegionIx) (f : Run → Run) : (d.onRun r f).report = d.report := rfl
@[simp] theorem Device.onRun_shed (r : RegionIx) (f : Run → Run) : (d.onRun r f).shed = d.shed := rfl
@[simp] theorem Device.onRun_blocks (r : RegionIx) (f : Run → Run) : (d.onRun r f).blocks = d.blocks := rfl
@[simp] theorem Device.onRun_cells (r : RegionIx) (f : Run → Run) : (d.onRun r f).cells = d.cells := rfl
@[simp] theorem Device.onRun_drams (r : RegionIx) (f : Run → Run) : (d.onRun r f).drams = d.drams := rfl
@[simp] theorem Device.onRun_fenceIssued (r : RegionIx) (f : Run → Run) : (d.onRun r f).fenceIssued = d.fenceIssued := rfl
@[simp] theorem Device.onRun_fenceDone (r : RegionIx) (f : Run → Run) : (d.onRun r f).fenceDone = d.fenceDone := rfl
@[simp] theorem Device.onRun_fences (r : RegionIx) (f : Run → Run) : (d.onRun r f).fences = d.fences := rfl
@[simp] theorem Device.onRun_waggle (r : RegionIx) (f : Run → Run) : (d.onRun r f).waggle = d.waggle := rfl
@[simp] theorem Device.onRun_ryu (r : RegionIx) (f : Run → Run) : (d.onRun r f).ryu = d.ryu := rfl
@[simp] theorem Device.onRun_link (r : RegionIx) (f : Run → Run) : (d.onRun r f).link = d.link := rfl
@[simp] theorem Device.onRun_ptp (r : RegionIx) (f : Run → Run) : (d.onRun r f).ptp = d.ptp := rfl
@[simp] theorem Device.onRun_sched (r : RegionIx) (f : Run → Run) : (d.onRun r f).sched = d.sched := rfl
@[simp] theorem Device.onRun_chip (r : RegionIx) (f : Run → Run) : (d.onRun r f).chip = d.chip := rfl
@[simp] theorem Device.onRun_log (r : RegionIx) (f : Run → Run) : (d.onRun r f).log = d.log := rfl
@[simp] theorem Device.onRun_logQueue (r : RegionIx) (f : Run → Run) : (d.onRun r f).logQueue = d.logQueue := rfl
@[simp] theorem Device.onRun_logSkipped (r : RegionIx) (f : Run → Run) : (d.onRun r f).logSkipped = d.logSkipped := rfl
@[simp] theorem Device.onRun_sec (r : RegionIx) (f : Run → Run) : (d.onRun r f).sec = d.sec := rfl

@[simp] theorem Device.onSeq_time (r : RegionIx) (f : Sequencer → Sequencer) : (d.onSeq r f).time = d.time := rfl
@[simp] theorem Device.onSeq_keeper2 (r : RegionIx) (f : Sequencer → Sequencer) : (d.onSeq r f).keeper2 = d.keeper2 := rfl
@[simp] theorem Device.onSeq_free (r : RegionIx) (f : Sequencer → Sequencer) : (d.onSeq r f).free = d.free := rfl
@[simp] theorem Device.onSeq_modes (r : RegionIx) (f : Sequencer → Sequencer) : (d.onSeq r f).modes = d.modes := rfl
@[simp] theorem Device.onSeq_report (r : RegionIx) (f : Sequencer → Sequencer) : (d.onSeq r f).report = d.report := rfl
@[simp] theorem Device.onSeq_shed (r : RegionIx) (f : Sequencer → Sequencer) : (d.onSeq r f).shed = d.shed := rfl
@[simp] theorem Device.onSeq_blocks (r : RegionIx) (f : Sequencer → Sequencer) : (d.onSeq r f).blocks = d.blocks := rfl
@[simp] theorem Device.onSeq_cells (r : RegionIx) (f : Sequencer → Sequencer) : (d.onSeq r f).cells = d.cells := rfl
@[simp] theorem Device.onSeq_drams (r : RegionIx) (f : Sequencer → Sequencer) : (d.onSeq r f).drams = d.drams := rfl
@[simp] theorem Device.onSeq_fenceIssued (r : RegionIx) (f : Sequencer → Sequencer) : (d.onSeq r f).fenceIssued = d.fenceIssued := rfl
@[simp] theorem Device.onSeq_fenceDone (r : RegionIx) (f : Sequencer → Sequencer) : (d.onSeq r f).fenceDone = d.fenceDone := rfl
@[simp] theorem Device.onSeq_fences (r : RegionIx) (f : Sequencer → Sequencer) : (d.onSeq r f).fences = d.fences := rfl
@[simp] theorem Device.onSeq_waggle (r : RegionIx) (f : Sequencer → Sequencer) : (d.onSeq r f).waggle = d.waggle := rfl
@[simp] theorem Device.onSeq_ryu (r : RegionIx) (f : Sequencer → Sequencer) : (d.onSeq r f).ryu = d.ryu := rfl
@[simp] theorem Device.onSeq_link (r : RegionIx) (f : Sequencer → Sequencer) : (d.onSeq r f).link = d.link := rfl
@[simp] theorem Device.onSeq_ptp (r : RegionIx) (f : Sequencer → Sequencer) : (d.onSeq r f).ptp = d.ptp := rfl
@[simp] theorem Device.onSeq_sched (r : RegionIx) (f : Sequencer → Sequencer) : (d.onSeq r f).sched = d.sched := rfl
@[simp] theorem Device.onSeq_chip (r : RegionIx) (f : Sequencer → Sequencer) : (d.onSeq r f).chip = d.chip := rfl
@[simp] theorem Device.onSeq_log (r : RegionIx) (f : Sequencer → Sequencer) : (d.onSeq r f).log = d.log := rfl
@[simp] theorem Device.onSeq_logQueue (r : RegionIx) (f : Sequencer → Sequencer) : (d.onSeq r f).logQueue = d.logQueue := rfl
@[simp] theorem Device.onSeq_logSkipped (r : RegionIx) (f : Sequencer → Sequencer) : (d.onSeq r f).logSkipped = d.logSkipped := rfl
@[simp] theorem Device.onSeq_sec (r : RegionIx) (f : Sequencer → Sequencer) : (d.onSeq r f).sec = d.sec := rfl

@[simp] theorem Device.onDram_time (n : DramIx) (f : DramChan → DramChan) : (d.onDram n f).time = d.time := rfl
@[simp] theorem Device.onDram_keeper2 (n : DramIx) (f : DramChan → DramChan) : (d.onDram n f).keeper2 = d.keeper2 := rfl
@[simp] theorem Device.onDram_free (n : DramIx) (f : DramChan → DramChan) : (d.onDram n f).free = d.free := rfl
@[simp] theorem Device.onDram_modes (n : DramIx) (f : DramChan → DramChan) : (d.onDram n f).modes = d.modes := rfl
@[simp] theorem Device.onDram_report (n : DramIx) (f : DramChan → DramChan) : (d.onDram n f).report = d.report := rfl
@[simp] theorem Device.onDram_shed (n : DramIx) (f : DramChan → DramChan) : (d.onDram n f).shed = d.shed := rfl
@[simp] theorem Device.onDram_regions (n : DramIx) (f : DramChan → DramChan) : (d.onDram n f).regions = d.regions := rfl
@[simp] theorem Device.onDram_blocks (n : DramIx) (f : DramChan → DramChan) : (d.onDram n f).blocks = d.blocks := rfl
@[simp] theorem Device.onDram_cells (n : DramIx) (f : DramChan → DramChan) : (d.onDram n f).cells = d.cells := rfl
@[simp] theorem Device.onDram_fenceIssued (n : DramIx) (f : DramChan → DramChan) : (d.onDram n f).fenceIssued = d.fenceIssued := rfl
@[simp] theorem Device.onDram_fenceDone (n : DramIx) (f : DramChan → DramChan) : (d.onDram n f).fenceDone = d.fenceDone := rfl
@[simp] theorem Device.onDram_fences (n : DramIx) (f : DramChan → DramChan) : (d.onDram n f).fences = d.fences := rfl
@[simp] theorem Device.onDram_waggle (n : DramIx) (f : DramChan → DramChan) : (d.onDram n f).waggle = d.waggle := rfl
@[simp] theorem Device.onDram_ryu (n : DramIx) (f : DramChan → DramChan) : (d.onDram n f).ryu = d.ryu := rfl
@[simp] theorem Device.onDram_link (n : DramIx) (f : DramChan → DramChan) : (d.onDram n f).link = d.link := rfl
@[simp] theorem Device.onDram_ptp (n : DramIx) (f : DramChan → DramChan) : (d.onDram n f).ptp = d.ptp := rfl
@[simp] theorem Device.onDram_sched (n : DramIx) (f : DramChan → DramChan) : (d.onDram n f).sched = d.sched := rfl
@[simp] theorem Device.onDram_chip (n : DramIx) (f : DramChan → DramChan) : (d.onDram n f).chip = d.chip := rfl
@[simp] theorem Device.onDram_log (n : DramIx) (f : DramChan → DramChan) : (d.onDram n f).log = d.log := rfl
@[simp] theorem Device.onDram_logQueue (n : DramIx) (f : DramChan → DramChan) : (d.onDram n f).logQueue = d.logQueue := rfl
@[simp] theorem Device.onDram_logSkipped (n : DramIx) (f : DramChan → DramChan) : (d.onDram n f).logSkipped = d.logSkipped := rfl
@[simp] theorem Device.onDram_sec (n : DramIx) (f : DramChan → DramChan) : (d.onDram n f).sec = d.sec := rfl

@[simp] theorem Device.onChan_time (k : WaggleIx) (f : WChan → WChan) : (d.onChan k f).time = d.time := rfl
@[simp] theorem Device.onChan_keeper2 (k : WaggleIx) (f : WChan → WChan) : (d.onChan k f).keeper2 = d.keeper2 := rfl
@[simp] theorem Device.onChan_free (k : WaggleIx) (f : WChan → WChan) : (d.onChan k f).free = d.free := rfl
@[simp] theorem Device.onChan_modes (k : WaggleIx) (f : WChan → WChan) : (d.onChan k f).modes = d.modes := rfl
@[simp] theorem Device.onChan_report (k : WaggleIx) (f : WChan → WChan) : (d.onChan k f).report = d.report := rfl
@[simp] theorem Device.onChan_shed (k : WaggleIx) (f : WChan → WChan) : (d.onChan k f).shed = d.shed := rfl
@[simp] theorem Device.onChan_regions (k : WaggleIx) (f : WChan → WChan) : (d.onChan k f).regions = d.regions := rfl
@[simp] theorem Device.onChan_blocks (k : WaggleIx) (f : WChan → WChan) : (d.onChan k f).blocks = d.blocks := rfl
@[simp] theorem Device.onChan_cells (k : WaggleIx) (f : WChan → WChan) : (d.onChan k f).cells = d.cells := rfl
@[simp] theorem Device.onChan_drams (k : WaggleIx) (f : WChan → WChan) : (d.onChan k f).drams = d.drams := rfl
@[simp] theorem Device.onChan_fenceIssued (k : WaggleIx) (f : WChan → WChan) : (d.onChan k f).fenceIssued = d.fenceIssued := rfl
@[simp] theorem Device.onChan_fenceDone (k : WaggleIx) (f : WChan → WChan) : (d.onChan k f).fenceDone = d.fenceDone := rfl
@[simp] theorem Device.onChan_fences (k : WaggleIx) (f : WChan → WChan) : (d.onChan k f).fences = d.fences := rfl
@[simp] theorem Device.onChan_ryu (k : WaggleIx) (f : WChan → WChan) : (d.onChan k f).ryu = d.ryu := rfl
@[simp] theorem Device.onChan_link (k : WaggleIx) (f : WChan → WChan) : (d.onChan k f).link = d.link := rfl
@[simp] theorem Device.onChan_ptp (k : WaggleIx) (f : WChan → WChan) : (d.onChan k f).ptp = d.ptp := rfl
@[simp] theorem Device.onChan_sched (k : WaggleIx) (f : WChan → WChan) : (d.onChan k f).sched = d.sched := rfl
@[simp] theorem Device.onChan_chip (k : WaggleIx) (f : WChan → WChan) : (d.onChan k f).chip = d.chip := rfl
@[simp] theorem Device.onChan_log (k : WaggleIx) (f : WChan → WChan) : (d.onChan k f).log = d.log := rfl
@[simp] theorem Device.onChan_logQueue (k : WaggleIx) (f : WChan → WChan) : (d.onChan k f).logQueue = d.logQueue := rfl
@[simp] theorem Device.onChan_logSkipped (k : WaggleIx) (f : WChan → WChan) : (d.onChan k f).logSkipped = d.logSkipped := rfl
@[simp] theorem Device.onChan_sec (k : WaggleIx) (f : WChan → WChan) : (d.onChan k f).sec = d.sec := rfl

@[simp] theorem Device.onCtx_time (x : CtxIx) (f : Context → Context) : (d.onCtx x f).time = d.time := rfl
@[simp] theorem Device.onCtx_keeper2 (x : CtxIx) (f : Context → Context) : (d.onCtx x f).keeper2 = d.keeper2 := rfl
@[simp] theorem Device.onCtx_free (x : CtxIx) (f : Context → Context) : (d.onCtx x f).free = d.free := rfl
@[simp] theorem Device.onCtx_modes (x : CtxIx) (f : Context → Context) : (d.onCtx x f).modes = d.modes := rfl
@[simp] theorem Device.onCtx_report (x : CtxIx) (f : Context → Context) : (d.onCtx x f).report = d.report := rfl
@[simp] theorem Device.onCtx_shed (x : CtxIx) (f : Context → Context) : (d.onCtx x f).shed = d.shed := rfl
@[simp] theorem Device.onCtx_regions (x : CtxIx) (f : Context → Context) : (d.onCtx x f).regions = d.regions := rfl
@[simp] theorem Device.onCtx_blocks (x : CtxIx) (f : Context → Context) : (d.onCtx x f).blocks = d.blocks := rfl
@[simp] theorem Device.onCtx_cells (x : CtxIx) (f : Context → Context) : (d.onCtx x f).cells = d.cells := rfl
@[simp] theorem Device.onCtx_drams (x : CtxIx) (f : Context → Context) : (d.onCtx x f).drams = d.drams := rfl
@[simp] theorem Device.onCtx_fenceIssued (x : CtxIx) (f : Context → Context) : (d.onCtx x f).fenceIssued = d.fenceIssued := rfl
@[simp] theorem Device.onCtx_fenceDone (x : CtxIx) (f : Context → Context) : (d.onCtx x f).fenceDone = d.fenceDone := rfl
@[simp] theorem Device.onCtx_fences (x : CtxIx) (f : Context → Context) : (d.onCtx x f).fences = d.fences := rfl
@[simp] theorem Device.onCtx_waggle (x : CtxIx) (f : Context → Context) : (d.onCtx x f).waggle = d.waggle := rfl
@[simp] theorem Device.onCtx_link (x : CtxIx) (f : Context → Context) : (d.onCtx x f).link = d.link := rfl
@[simp] theorem Device.onCtx_ptp (x : CtxIx) (f : Context → Context) : (d.onCtx x f).ptp = d.ptp := rfl
@[simp] theorem Device.onCtx_sched (x : CtxIx) (f : Context → Context) : (d.onCtx x f).sched = d.sched := rfl
@[simp] theorem Device.onCtx_chip (x : CtxIx) (f : Context → Context) : (d.onCtx x f).chip = d.chip := rfl
@[simp] theorem Device.onCtx_log (x : CtxIx) (f : Context → Context) : (d.onCtx x f).log = d.log := rfl
@[simp] theorem Device.onCtx_logQueue (x : CtxIx) (f : Context → Context) : (d.onCtx x f).logQueue = d.logQueue := rfl
@[simp] theorem Device.onCtx_logSkipped (x : CtxIx) (f : Context → Context) : (d.onCtx x f).logSkipped = d.logSkipped := rfl
@[simp] theorem Device.onCtx_sec (x : CtxIx) (f : Context → Context) : (d.onCtx x f).sec = d.sec := rfl

@[simp] theorem Device.onPort_time (p : PortIx) (f : Port → Port) : (d.onPort p f).time = d.time := rfl
@[simp] theorem Device.onPort_keeper2 (p : PortIx) (f : Port → Port) : (d.onPort p f).keeper2 = d.keeper2 := rfl
@[simp] theorem Device.onPort_free (p : PortIx) (f : Port → Port) : (d.onPort p f).free = d.free := rfl
@[simp] theorem Device.onPort_modes (p : PortIx) (f : Port → Port) : (d.onPort p f).modes = d.modes := rfl
@[simp] theorem Device.onPort_report (p : PortIx) (f : Port → Port) : (d.onPort p f).report = d.report := rfl
@[simp] theorem Device.onPort_shed (p : PortIx) (f : Port → Port) : (d.onPort p f).shed = d.shed := rfl
@[simp] theorem Device.onPort_regions (p : PortIx) (f : Port → Port) : (d.onPort p f).regions = d.regions := rfl
@[simp] theorem Device.onPort_blocks (p : PortIx) (f : Port → Port) : (d.onPort p f).blocks = d.blocks := rfl
@[simp] theorem Device.onPort_cells (p : PortIx) (f : Port → Port) : (d.onPort p f).cells = d.cells := rfl
@[simp] theorem Device.onPort_drams (p : PortIx) (f : Port → Port) : (d.onPort p f).drams = d.drams := rfl
@[simp] theorem Device.onPort_fenceIssued (p : PortIx) (f : Port → Port) : (d.onPort p f).fenceIssued = d.fenceIssued := rfl
@[simp] theorem Device.onPort_fenceDone (p : PortIx) (f : Port → Port) : (d.onPort p f).fenceDone = d.fenceDone := rfl
@[simp] theorem Device.onPort_fences (p : PortIx) (f : Port → Port) : (d.onPort p f).fences = d.fences := rfl
@[simp] theorem Device.onPort_waggle (p : PortIx) (f : Port → Port) : (d.onPort p f).waggle = d.waggle := rfl
@[simp] theorem Device.onPort_ryu (p : PortIx) (f : Port → Port) : (d.onPort p f).ryu = d.ryu := rfl
@[simp] theorem Device.onPort_ptp (p : PortIx) (f : Port → Port) : (d.onPort p f).ptp = d.ptp := rfl
@[simp] theorem Device.onPort_sched (p : PortIx) (f : Port → Port) : (d.onPort p f).sched = d.sched := rfl
@[simp] theorem Device.onPort_chip (p : PortIx) (f : Port → Port) : (d.onPort p f).chip = d.chip := rfl
@[simp] theorem Device.onPort_log (p : PortIx) (f : Port → Port) : (d.onPort p f).log = d.log := rfl
@[simp] theorem Device.onPort_logQueue (p : PortIx) (f : Port → Port) : (d.onPort p f).logQueue = d.logQueue := rfl
@[simp] theorem Device.onPort_logSkipped (p : PortIx) (f : Port → Port) : (d.onPort p f).logSkipped = d.logSkipped := rfl
@[simp] theorem Device.onPort_sec (p : PortIx) (f : Port → Port) : (d.onPort p f).sec = d.sec := rfl

@[simp] theorem Device.onSession_time (i : Fin 16) (f : Session → Session) : (d.onSession i f).time = d.time := rfl
@[simp] theorem Device.onSession_keeper2 (i : Fin 16) (f : Session → Session) : (d.onSession i f).keeper2 = d.keeper2 := rfl
@[simp] theorem Device.onSession_free (i : Fin 16) (f : Session → Session) : (d.onSession i f).free = d.free := rfl
@[simp] theorem Device.onSession_modes (i : Fin 16) (f : Session → Session) : (d.onSession i f).modes = d.modes := rfl
@[simp] theorem Device.onSession_report (i : Fin 16) (f : Session → Session) : (d.onSession i f).report = d.report := rfl
@[simp] theorem Device.onSession_shed (i : Fin 16) (f : Session → Session) : (d.onSession i f).shed = d.shed := rfl
@[simp] theorem Device.onSession_regions (i : Fin 16) (f : Session → Session) : (d.onSession i f).regions = d.regions := rfl
@[simp] theorem Device.onSession_blocks (i : Fin 16) (f : Session → Session) : (d.onSession i f).blocks = d.blocks := rfl
@[simp] theorem Device.onSession_cells (i : Fin 16) (f : Session → Session) : (d.onSession i f).cells = d.cells := rfl
@[simp] theorem Device.onSession_drams (i : Fin 16) (f : Session → Session) : (d.onSession i f).drams = d.drams := rfl
@[simp] theorem Device.onSession_fenceIssued (i : Fin 16) (f : Session → Session) : (d.onSession i f).fenceIssued = d.fenceIssued := rfl
@[simp] theorem Device.onSession_fenceDone (i : Fin 16) (f : Session → Session) : (d.onSession i f).fenceDone = d.fenceDone := rfl
@[simp] theorem Device.onSession_fences (i : Fin 16) (f : Session → Session) : (d.onSession i f).fences = d.fences := rfl
@[simp] theorem Device.onSession_waggle (i : Fin 16) (f : Session → Session) : (d.onSession i f).waggle = d.waggle := rfl
@[simp] theorem Device.onSession_ryu (i : Fin 16) (f : Session → Session) : (d.onSession i f).ryu = d.ryu := rfl
@[simp] theorem Device.onSession_ptp (i : Fin 16) (f : Session → Session) : (d.onSession i f).ptp = d.ptp := rfl
@[simp] theorem Device.onSession_sched (i : Fin 16) (f : Session → Session) : (d.onSession i f).sched = d.sched := rfl
@[simp] theorem Device.onSession_chip (i : Fin 16) (f : Session → Session) : (d.onSession i f).chip = d.chip := rfl
@[simp] theorem Device.onSession_log (i : Fin 16) (f : Session → Session) : (d.onSession i f).log = d.log := rfl
@[simp] theorem Device.onSession_logQueue (i : Fin 16) (f : Session → Session) : (d.onSession i f).logQueue = d.logQueue := rfl
@[simp] theorem Device.onSession_logSkipped (i : Fin 16) (f : Session → Session) : (d.onSession i f).logSkipped = d.logSkipped := rfl
@[simp] theorem Device.onSession_sec (i : Fin 16) (f : Session → Session) : (d.onSession i f).sec = d.sec := rfl

@[simp] theorem Device.nextFree_time : (d.nextFree).time = d.time := rfl
@[simp] theorem Device.nextFree_keeper2 : (d.nextFree).keeper2 = d.keeper2 := rfl
@[simp] theorem Device.nextFree_modes : (d.nextFree).modes = d.modes := rfl
@[simp] theorem Device.nextFree_report : (d.nextFree).report = d.report := rfl
@[simp] theorem Device.nextFree_shed : (d.nextFree).shed = d.shed := rfl
@[simp] theorem Device.nextFree_regions : (d.nextFree).regions = d.regions := rfl
@[simp] theorem Device.nextFree_blocks : (d.nextFree).blocks = d.blocks := rfl
@[simp] theorem Device.nextFree_cells : (d.nextFree).cells = d.cells := rfl
@[simp] theorem Device.nextFree_drams : (d.nextFree).drams = d.drams := rfl
@[simp] theorem Device.nextFree_fenceIssued : (d.nextFree).fenceIssued = d.fenceIssued := rfl
@[simp] theorem Device.nextFree_fenceDone : (d.nextFree).fenceDone = d.fenceDone := rfl
@[simp] theorem Device.nextFree_fences : (d.nextFree).fences = d.fences := rfl
@[simp] theorem Device.nextFree_waggle : (d.nextFree).waggle = d.waggle := rfl
@[simp] theorem Device.nextFree_ryu : (d.nextFree).ryu = d.ryu := rfl
@[simp] theorem Device.nextFree_link : (d.nextFree).link = d.link := rfl
@[simp] theorem Device.nextFree_ptp : (d.nextFree).ptp = d.ptp := rfl
@[simp] theorem Device.nextFree_sched : (d.nextFree).sched = d.sched := rfl
@[simp] theorem Device.nextFree_chip : (d.nextFree).chip = d.chip := rfl
@[simp] theorem Device.nextFree_log : (d.nextFree).log = d.log := rfl
@[simp] theorem Device.nextFree_logQueue : (d.nextFree).logQueue = d.logQueue := rfl
@[simp] theorem Device.nextFree_logSkipped : (d.nextFree).logSkipped = d.logSkipped := rfl
@[simp] theorem Device.nextFree_sec : (d.nextFree).sec = d.sec := rfl

@[simp] theorem Device.emit_time (f : Sent) : (d.emit f).time = d.time := rfl
@[simp] theorem Device.emit_keeper2 (f : Sent) : (d.emit f).keeper2 = d.keeper2 := rfl
@[simp] theorem Device.emit_free (f : Sent) : (d.emit f).free = d.free := rfl
@[simp] theorem Device.emit_modes (f : Sent) : (d.emit f).modes = d.modes := rfl
@[simp] theorem Device.emit_report (f : Sent) : (d.emit f).report = d.report := rfl
@[simp] theorem Device.emit_shed (f : Sent) : (d.emit f).shed = d.shed := rfl
@[simp] theorem Device.emit_regions (f : Sent) : (d.emit f).regions = d.regions := rfl
@[simp] theorem Device.emit_blocks (f : Sent) : (d.emit f).blocks = d.blocks := rfl
@[simp] theorem Device.emit_cells (f : Sent) : (d.emit f).cells = d.cells := rfl
@[simp] theorem Device.emit_drams (f : Sent) : (d.emit f).drams = d.drams := rfl
@[simp] theorem Device.emit_fenceIssued (f : Sent) : (d.emit f).fenceIssued = d.fenceIssued := rfl
@[simp] theorem Device.emit_fenceDone (f : Sent) : (d.emit f).fenceDone = d.fenceDone := rfl
@[simp] theorem Device.emit_fences (f : Sent) : (d.emit f).fences = d.fences := rfl
@[simp] theorem Device.emit_waggle (f : Sent) : (d.emit f).waggle = d.waggle := rfl
@[simp] theorem Device.emit_ryu (f : Sent) : (d.emit f).ryu = d.ryu := rfl
@[simp] theorem Device.emit_ptp (f : Sent) : (d.emit f).ptp = d.ptp := rfl
@[simp] theorem Device.emit_sched (f : Sent) : (d.emit f).sched = d.sched := rfl
@[simp] theorem Device.emit_chip (f : Sent) : (d.emit f).chip = d.chip := rfl
@[simp] theorem Device.emit_log (f : Sent) : (d.emit f).log = d.log := rfl
@[simp] theorem Device.emit_logQueue (f : Sent) : (d.emit f).logQueue = d.logQueue := rfl
@[simp] theorem Device.emit_logSkipped (f : Sent) : (d.emit f).logSkipped = d.logSkipped := rfl
@[simp] theorem Device.emit_sec (f : Sent) : (d.emit f).sec = d.sec := rfl

@[simp] theorem Device.respond_time (i : Fin 16) (t : Ret) (r : Reply) : (d.respond i t r).time = d.time := rfl
@[simp] theorem Device.respond_keeper2 (i : Fin 16) (t : Ret) (r : Reply) : (d.respond i t r).keeper2 = d.keeper2 := rfl
@[simp] theorem Device.respond_free (i : Fin 16) (t : Ret) (r : Reply) : (d.respond i t r).free = d.free := rfl
@[simp] theorem Device.respond_modes (i : Fin 16) (t : Ret) (r : Reply) : (d.respond i t r).modes = d.modes := rfl
@[simp] theorem Device.respond_report (i : Fin 16) (t : Ret) (r : Reply) : (d.respond i t r).report = d.report := rfl
@[simp] theorem Device.respond_shed (i : Fin 16) (t : Ret) (r : Reply) : (d.respond i t r).shed = d.shed := rfl
@[simp] theorem Device.respond_regions (i : Fin 16) (t : Ret) (r : Reply) : (d.respond i t r).regions = d.regions := rfl
@[simp] theorem Device.respond_blocks (i : Fin 16) (t : Ret) (r : Reply) : (d.respond i t r).blocks = d.blocks := rfl
@[simp] theorem Device.respond_cells (i : Fin 16) (t : Ret) (r : Reply) : (d.respond i t r).cells = d.cells := rfl
@[simp] theorem Device.respond_drams (i : Fin 16) (t : Ret) (r : Reply) : (d.respond i t r).drams = d.drams := rfl
@[simp] theorem Device.respond_fenceIssued (i : Fin 16) (t : Ret) (r : Reply) : (d.respond i t r).fenceIssued = d.fenceIssued := rfl
@[simp] theorem Device.respond_fenceDone (i : Fin 16) (t : Ret) (r : Reply) : (d.respond i t r).fenceDone = d.fenceDone := rfl
@[simp] theorem Device.respond_fences (i : Fin 16) (t : Ret) (r : Reply) : (d.respond i t r).fences = d.fences := rfl
@[simp] theorem Device.respond_waggle (i : Fin 16) (t : Ret) (r : Reply) : (d.respond i t r).waggle = d.waggle := rfl
@[simp] theorem Device.respond_ryu (i : Fin 16) (t : Ret) (r : Reply) : (d.respond i t r).ryu = d.ryu := rfl
@[simp] theorem Device.respond_ptp (i : Fin 16) (t : Ret) (r : Reply) : (d.respond i t r).ptp = d.ptp := rfl
@[simp] theorem Device.respond_sched (i : Fin 16) (t : Ret) (r : Reply) : (d.respond i t r).sched = d.sched := rfl
@[simp] theorem Device.respond_chip (i : Fin 16) (t : Ret) (r : Reply) : (d.respond i t r).chip = d.chip := rfl
@[simp] theorem Device.respond_log (i : Fin 16) (t : Ret) (r : Reply) : (d.respond i t r).log = d.log := rfl
@[simp] theorem Device.respond_logQueue (i : Fin 16) (t : Ret) (r : Reply) : (d.respond i t r).logQueue = d.logQueue := rfl
@[simp] theorem Device.respond_logSkipped (i : Fin 16) (t : Ret) (r : Reply) : (d.respond i t r).logSkipped = d.logSkipped := rfl
@[simp] theorem Device.respond_sec (i : Fin 16) (t : Ret) (r : Reply) : (d.respond i t r).sec = d.sec := rfl

@[simp] theorem Device.discard_time (p : PortIx) : (d.discard p).time = d.time := rfl
@[simp] theorem Device.discard_keeper2 (p : PortIx) : (d.discard p).keeper2 = d.keeper2 := rfl
@[simp] theorem Device.discard_free (p : PortIx) : (d.discard p).free = d.free := rfl
@[simp] theorem Device.discard_modes (p : PortIx) : (d.discard p).modes = d.modes := rfl
@[simp] theorem Device.discard_report (p : PortIx) : (d.discard p).report = d.report := rfl
@[simp] theorem Device.discard_shed (p : PortIx) : (d.discard p).shed = d.shed := rfl
@[simp] theorem Device.discard_regions (p : PortIx) : (d.discard p).regions = d.regions := rfl
@[simp] theorem Device.discard_blocks (p : PortIx) : (d.discard p).blocks = d.blocks := rfl
@[simp] theorem Device.discard_cells (p : PortIx) : (d.discard p).cells = d.cells := rfl
@[simp] theorem Device.discard_drams (p : PortIx) : (d.discard p).drams = d.drams := rfl
@[simp] theorem Device.discard_fenceIssued (p : PortIx) : (d.discard p).fenceIssued = d.fenceIssued := rfl
@[simp] theorem Device.discard_fenceDone (p : PortIx) : (d.discard p).fenceDone = d.fenceDone := rfl
@[simp] theorem Device.discard_fences (p : PortIx) : (d.discard p).fences = d.fences := rfl
@[simp] theorem Device.discard_waggle (p : PortIx) : (d.discard p).waggle = d.waggle := rfl
@[simp] theorem Device.discard_ryu (p : PortIx) : (d.discard p).ryu = d.ryu := rfl
@[simp] theorem Device.discard_ptp (p : PortIx) : (d.discard p).ptp = d.ptp := rfl
@[simp] theorem Device.discard_sched (p : PortIx) : (d.discard p).sched = d.sched := rfl
@[simp] theorem Device.discard_chip (p : PortIx) : (d.discard p).chip = d.chip := rfl
@[simp] theorem Device.discard_log (p : PortIx) : (d.discard p).log = d.log := rfl
@[simp] theorem Device.discard_logQueue (p : PortIx) : (d.discard p).logQueue = d.logQueue := rfl
@[simp] theorem Device.discard_logSkipped (p : PortIx) : (d.discard p).logSkipped = d.logSkipped := rfl
@[simp] theorem Device.discard_sec (p : PortIx) : (d.discard p).sec = d.sec := rfl

@[simp] theorem Device.frameSeen_time (i : Fin 16) (p : PortIx) : (d.frameSeen i p).time = d.time := rfl
@[simp] theorem Device.frameSeen_keeper2 (i : Fin 16) (p : PortIx) : (d.frameSeen i p).keeper2 = d.keeper2 := rfl
@[simp] theorem Device.frameSeen_free (i : Fin 16) (p : PortIx) : (d.frameSeen i p).free = d.free := rfl
@[simp] theorem Device.frameSeen_modes (i : Fin 16) (p : PortIx) : (d.frameSeen i p).modes = d.modes := rfl
@[simp] theorem Device.frameSeen_report (i : Fin 16) (p : PortIx) : (d.frameSeen i p).report = d.report := rfl
@[simp] theorem Device.frameSeen_shed (i : Fin 16) (p : PortIx) : (d.frameSeen i p).shed = d.shed := rfl
@[simp] theorem Device.frameSeen_regions (i : Fin 16) (p : PortIx) : (d.frameSeen i p).regions = d.regions := rfl
@[simp] theorem Device.frameSeen_blocks (i : Fin 16) (p : PortIx) : (d.frameSeen i p).blocks = d.blocks := rfl
@[simp] theorem Device.frameSeen_cells (i : Fin 16) (p : PortIx) : (d.frameSeen i p).cells = d.cells := rfl
@[simp] theorem Device.frameSeen_drams (i : Fin 16) (p : PortIx) : (d.frameSeen i p).drams = d.drams := rfl
@[simp] theorem Device.frameSeen_fenceIssued (i : Fin 16) (p : PortIx) : (d.frameSeen i p).fenceIssued = d.fenceIssued := rfl
@[simp] theorem Device.frameSeen_fenceDone (i : Fin 16) (p : PortIx) : (d.frameSeen i p).fenceDone = d.fenceDone := rfl
@[simp] theorem Device.frameSeen_fences (i : Fin 16) (p : PortIx) : (d.frameSeen i p).fences = d.fences := rfl
@[simp] theorem Device.frameSeen_waggle (i : Fin 16) (p : PortIx) : (d.frameSeen i p).waggle = d.waggle := rfl
@[simp] theorem Device.frameSeen_ryu (i : Fin 16) (p : PortIx) : (d.frameSeen i p).ryu = d.ryu := rfl
@[simp] theorem Device.frameSeen_ptp (i : Fin 16) (p : PortIx) : (d.frameSeen i p).ptp = d.ptp := rfl
@[simp] theorem Device.frameSeen_sched (i : Fin 16) (p : PortIx) : (d.frameSeen i p).sched = d.sched := rfl
@[simp] theorem Device.frameSeen_chip (i : Fin 16) (p : PortIx) : (d.frameSeen i p).chip = d.chip := rfl
@[simp] theorem Device.frameSeen_log (i : Fin 16) (p : PortIx) : (d.frameSeen i p).log = d.log := rfl
@[simp] theorem Device.frameSeen_logQueue (i : Fin 16) (p : PortIx) : (d.frameSeen i p).logQueue = d.logQueue := rfl
@[simp] theorem Device.frameSeen_logSkipped (i : Fin 16) (p : PortIx) : (d.frameSeen i p).logSkipped = d.logSkipped := rfl
@[simp] theorem Device.frameSeen_sec (i : Fin 16) (p : PortIx) : (d.frameSeen i p).sec = d.sec := rfl

end Sys2Proof.Machine
end

