-- ==== Sys2Proof/Laws/Request.lean ====
section
/-!
SUPPORT. What a frame that the part acts on leaves as it was, and what a write of a register is: one law for the accepted write
and one for the refused one (R325, R358, R360).
-/
namespace Sys2Proof.Machine

variable (d : Device)

/-! ### Reading back one part -/

@[simp] theorem Device.onCell_get (c : CellIx) (f : Cell → Cell) (j : Nat) (hj : j < 128) :
    (d.onCell c f).cells[j] = if c.val = j then f d.cells[j] else d.cells[j] := by
  by_cases e : c.val = j
  · subst e; simp [Device.onCell]
  · simp [Device.onCell, e]

@[simp] theorem Device.onBlock_get (b : BlockIx) (f : Block → Block) (j : Nat) (hj : j < 8) :
    (d.onBlock b f).blocks[j] = if b.val = j then f d.blocks[j] else d.blocks[j] := by
  by_cases e : b.val = j
  · subst e; simp [Device.onBlock]
  · simp [Device.onBlock, e]

@[simp] theorem Device.onRegion_get (r : RegionIx) (f : Region → Region) (j : Nat) (hj : j < 2) :
    (d.onRegion r f).regions[j] = if r.val = j then f d.regions[j] else d.regions[j] := by
  by_cases e : r.val = j
  · subst e; simp [Device.onRegion]
  · simp [Device.onRegion, e]

@[simp] theorem Device.onDram_get (n : DramIx) (f : DramChan → DramChan) (j : Nat) (hj : j < 4) :
    (d.onDram n f).drams[j] = if n.val = j then f d.drams[j] else d.drams[j] := by
  by_cases e : n.val = j
  · subst e; simp [Device.onDram]
  · simp [Device.onDram, e]

@[simp] theorem Device.onCtx_get (x : CtxIx) (f : Context → Context) (j : Nat) (hj : j < 4) :
    (d.onCtx x f).ryu.ctxs[j] = if x.val = j then f d.ryu.ctxs[j] else d.ryu.ctxs[j] := by
  by_cases e : x.val = j
  · subst e; simp [Device.onCtx]
  · simp [Device.onCtx, e]

@[simp] theorem Device.onChan_get (k : WaggleIx) (f : WChan → WChan) (j : Nat) (hj : j < 64) :
    (d.onChan k f).waggle.chans[j] = if k.val = j then f d.waggle.chans[j] else d.waggle.chans[j] := by
  by_cases e : k.val = j
  · subst e; simp [Device.onChan]
  · simp [Device.onChan, e]

@[simp] theorem Device.onSession_get (i : Fin 16) (f : Session → Session) (j : Nat) (hj : j < 16) :
    (d.onSession i f).link.sessions[j] = if i.val = j then f d.link.sessions[j] else d.link.sessions[j] := by
  by_cases e : i.val = j
  · subst e; simp [Device.onSession]
  · simp [Device.onSession, e]

@[simp] theorem Device.onPort_get (p : PortIx) (f : Port → Port) (j : Nat) (hj : j < 2) :
    (d.onPort p f).link.ports[j] = if p.val = j then f d.link.ports[j] else d.link.ports[j] := by
  by_cases e : p.val = j
  · subst e; simp [Device.onPort]
  · simp [Device.onPort, e]

/-! ### A frame that the part acts on -/

@[simp] theorem Device.grantCredits_time (i : Fin 16) (h : Hdr) : (d.grantCredits i h).time = d.time := by
  unfold Device.grantCredits; split <;> try rfl
  split <;> try split
  all_goals rfl
@[simp] theorem Device.grantCredits_keeper2 (i : Fin 16) (h : Hdr) : (d.grantCredits i h).keeper2 = d.keeper2 := by
  unfold Device.grantCredits; split <;> try rfl
  split <;> try split
  all_goals rfl
@[simp] theorem Device.grantCredits_free (i : Fin 16) (h : Hdr) : (d.grantCredits i h).free = d.free := by
  unfold Device.grantCredits; split <;> try rfl
  split <;> try split
  all_goals rfl
@[simp] theorem Device.grantCredits_modes (i : Fin 16) (h : Hdr) : (d.grantCredits i h).modes = d.modes := by
  unfold Device.grantCredits; split <;> try rfl
  split <;> try split
  all_goals rfl
@[simp] theorem Device.grantCredits_report (i : Fin 16) (h : Hdr) : (d.grantCredits i h).report = d.report := by
  unfold Device.grantCredits; split <;> try rfl
  split <;> try split
  all_goals rfl
@[simp] theorem Device.grantCredits_shed (i : Fin 16) (h : Hdr) : (d.grantCredits i h).shed = d.shed := by
  unfold Device.grantCredits; split <;> try rfl
  split <;> try split
  all_goals rfl
@[simp] theorem Device.grantCredits_regions (i : Fin 16) (h : Hdr) : (d.grantCredits i h).regions = d.regions := by
  unfold Device.grantCredits; split <;> try rfl
  split <;> try split
  all_goals rfl
@[simp] theorem Device.grantCredits_blocks (i : Fin 16) (h : Hdr) : (d.grantCredits i h).blocks = d.blocks := by
  unfold Device.grantCredits; split <;> try rfl
  split <;> try split
  all_goals rfl
@[simp] theorem Device.grantCredits_cells (i : Fin 16) (h : Hdr) : (d.grantCredits i h).cells = d.cells := by
  unfold Device.grantCredits; split <;> try rfl
  split <;> try split
  all_goals rfl
@[simp] theorem Device.grantCredits_drams (i : Fin 16) (h : Hdr) : (d.grantCredits i h).drams = d.drams := by
  unfold Device.grantCredits; split <;> try rfl
  split <;> try split
  all_goals rfl
@[simp] theorem Device.grantCredits_fenceIssued (i : Fin 16) (h : Hdr) : (d.grantCredits i h).fenceIssued = d.fenceIssued := by
  unfold Device.grantCredits; split <;> try rfl
  split <;> try split
  all_goals rfl
@[simp] theorem Device.grantCredits_fenceDone (i : Fin 16) (h : Hdr) : (d.grantCredits i h).fenceDone = d.fenceDone := by
  unfold Device.grantCredits; split <;> try rfl
  split <;> try split
  all_goals rfl
@[simp] theorem Device.grantCredits_fences (i : Fin 16) (h : Hdr) : (d.grantCredits i h).fences = d.fences := by
  unfold Device.grantCredits; split <;> try rfl
  split <;> try split
  all_goals rfl
@[simp] theorem Device.grantCredits_waggle (i : Fin 16) (h : Hdr) : (d.grantCredits i h).waggle = d.waggle := by
  unfold Device.grantCredits; split <;> try rfl
  split <;> try split
  all_goals rfl
@[simp] theorem Device.grantCredits_ryu (i : Fin 16) (h : Hdr) : (d.grantCredits i h).ryu = d.ryu := by
  unfold Device.grantCredits; split <;> try rfl
  split <;> try split
  all_goals rfl
@[simp] theorem Device.grantCredits_ptp (i : Fin 16) (h : Hdr) : (d.grantCredits i h).ptp = d.ptp := by
  unfold Device.grantCredits; split <;> try rfl
  split <;> try split
  all_goals rfl
@[simp] theorem Device.grantCredits_sched (i : Fin 16) (h : Hdr) : (d.grantCredits i h).sched = d.sched := by
  unfold Device.grantCredits; split <;> try rfl
  split <;> try split
  all_goals rfl
@[simp] theorem Device.grantCredits_chip (i : Fin 16) (h : Hdr) : (d.grantCredits i h).chip = d.chip := by
  unfold Device.grantCredits; split <;> try rfl
  split <;> try split
  all_goals rfl
@[simp] theorem Device.grantCredits_log (i : Fin 16) (h : Hdr) : (d.grantCredits i h).log = d.log := by
  unfold Device.grantCredits; split <;> try rfl
  split <;> try split
  all_goals rfl
@[simp] theorem Device.grantCredits_logQueue (i : Fin 16) (h : Hdr) : (d.grantCredits i h).logQueue = d.logQueue := by
  unfold Device.grantCredits; split <;> try rfl
  split <;> try split
  all_goals rfl
@[simp] theorem Device.grantCredits_logSkipped (i : Fin 16) (h : Hdr) : (d.grantCredits i h).logSkipped = d.logSkipped := by
  unfold Device.grantCredits; split <;> try rfl
  split <;> try split
  all_goals rfl
@[simp] theorem Device.grantCredits_sec (i : Fin 16) (h : Hdr) : (d.grantCredits i h).sec = d.sec := by
  unfold Device.grantCredits; split <;> try rfl
  split <;> try split
  all_goals rfl
@[simp] theorem Device.heard_time (i : Fin 16) (h : Hdr) : (d.heard i h).time = d.time := by simp [Device.heard]
@[simp] theorem Device.heard_keeper2 (i : Fin 16) (h : Hdr) : (d.heard i h).keeper2 = d.keeper2 := by simp [Device.heard]
@[simp] theorem Device.heard_free (i : Fin 16) (h : Hdr) : (d.heard i h).free = d.free := by simp [Device.heard]
@[simp] theorem Device.heard_modes (i : Fin 16) (h : Hdr) : (d.heard i h).modes = d.modes := by simp [Device.heard]
@[simp] theorem Device.heard_report (i : Fin 16) (h : Hdr) : (d.heard i h).report = d.report := by simp [Device.heard]
@[simp] theorem Device.heard_shed (i : Fin 16) (h : Hdr) : (d.heard i h).shed = d.shed := by simp [Device.heard]
@[simp] theorem Device.heard_regions (i : Fin 16) (h : Hdr) : (d.heard i h).regions = d.regions := by simp [Device.heard]
@[simp] theorem Device.heard_blocks (i : Fin 16) (h : Hdr) : (d.heard i h).blocks = d.blocks := by simp [Device.heard]
@[simp] theorem Device.heard_cells (i : Fin 16) (h : Hdr) : (d.heard i h).cells = d.cells := by simp [Device.heard]
@[simp] theorem Device.heard_drams (i : Fin 16) (h : Hdr) : (d.heard i h).drams = d.drams := by simp [Device.heard]
@[simp] theorem Device.heard_fenceIssued (i : Fin 16) (h : Hdr) : (d.heard i h).fenceIssued = d.fenceIssued := by simp [Device.heard]
@[simp] theorem Device.heard_fenceDone (i : Fin 16) (h : Hdr) : (d.heard i h).fenceDone = d.fenceDone := by simp [Device.heard]
@[simp] theorem Device.heard_fences (i : Fin 16) (h : Hdr) : (d.heard i h).fences = d.fences := by simp [Device.heard]
@[simp] theorem Device.heard_waggle (i : Fin 16) (h : Hdr) : (d.heard i h).waggle = d.waggle := by simp [Device.heard]
@[simp] theorem Device.heard_ryu (i : Fin 16) (h : Hdr) : (d.heard i h).ryu = d.ryu := by simp [Device.heard]
@[simp] theorem Device.heard_ptp (i : Fin 16) (h : Hdr) : (d.heard i h).ptp = d.ptp := by simp [Device.heard]
@[simp] theorem Device.heard_sched (i : Fin 16) (h : Hdr) : (d.heard i h).sched = d.sched := by simp [Device.heard]
@[simp] theorem Device.heard_chip (i : Fin 16) (h : Hdr) : (d.heard i h).chip = d.chip := by simp [Device.heard]
@[simp] theorem Device.heard_log (i : Fin 16) (h : Hdr) : (d.heard i h).log = d.log := by simp [Device.heard]
@[simp] theorem Device.heard_logQueue (i : Fin 16) (h : Hdr) : (d.heard i h).logQueue = d.logQueue := by simp [Device.heard]
@[simp] theorem Device.heard_logSkipped (i : Fin 16) (h : Hdr) : (d.heard i h).logSkipped = d.logSkipped := by simp [Device.heard]
@[simp] theorem Device.heard_sec (i : Fin 16) (h : Hdr) : (d.heard i h).sec = d.sec := by simp [Device.heard]
@[simp] theorem Device.answers_time (i : Fin 16) (h : Hdr) (p : List Nat) (t : Nat) : (d.answers i h p t).time = d.time := rfl
@[simp] theorem Device.answers_keeper2 (i : Fin 16) (h : Hdr) (p : List Nat) (t : Nat) : (d.answers i h p t).keeper2 = d.keeper2 := rfl
@[simp] theorem Device.answers_free (i : Fin 16) (h : Hdr) (p : List Nat) (t : Nat) : (d.answers i h p t).free = d.free := rfl
@[simp] theorem Device.answers_modes (i : Fin 16) (h : Hdr) (p : List Nat) (t : Nat) : (d.answers i h p t).modes = d.modes := rfl
@[simp] theorem Device.answers_report (i : Fin 16) (h : Hdr) (p : List Nat) (t : Nat) : (d.answers i h p t).report = d.report := rfl
@[simp] theorem Device.answers_shed (i : Fin 16) (h : Hdr) (p : List Nat) (t : Nat) : (d.answers i h p t).shed = d.shed := rfl
@[simp] theorem Device.answers_regions (i : Fin 16) (h : Hdr) (p : List Nat) (t : Nat) : (d.answers i h p t).regions = d.regions := rfl
@[simp] theorem Device.answers_blocks (i : Fin 16) (h : Hdr) (p : List Nat) (t : Nat) : (d.answers i h p t).blocks = d.blocks := rfl
@[simp] theorem Device.answers_cells (i : Fin 16) (h : Hdr) (p : List Nat) (t : Nat) : (d.answers i h p t).cells = d.cells := rfl
@[simp] theorem Device.answers_drams (i : Fin 16) (h : Hdr) (p : List Nat) (t : Nat) : (d.answers i h p t).drams = d.drams := rfl
@[simp] theorem Device.answers_fenceIssued (i : Fin 16) (h : Hdr) (p : List Nat) (t : Nat) : (d.answers i h p t).fenceIssued = d.fenceIssued := rfl
@[simp] theorem Device.answers_fenceDone (i : Fin 16) (h : Hdr) (p : List Nat) (t : Nat) : (d.answers i h p t).fenceDone = d.fenceDone := rfl
@[simp] theorem Device.answers_fences (i : Fin 16) (h : Hdr) (p : List Nat) (t : Nat) : (d.answers i h p t).fences = d.fences := rfl
@[simp] theorem Device.answers_waggle (i : Fin 16) (h : Hdr) (p : List Nat) (t : Nat) : (d.answers i h p t).waggle = d.waggle := rfl
@[simp] theorem Device.answers_ryu (i : Fin 16) (h : Hdr) (p : List Nat) (t : Nat) : (d.answers i h p t).ryu = d.ryu := rfl
@[simp] theorem Device.answers_ptp (i : Fin 16) (h : Hdr) (p : List Nat) (t : Nat) : (d.answers i h p t).ptp = d.ptp := rfl
@[simp] theorem Device.answers_sched (i : Fin 16) (h : Hdr) (p : List Nat) (t : Nat) : (d.answers i h p t).sched = d.sched := rfl
@[simp] theorem Device.answers_chip (i : Fin 16) (h : Hdr) (p : List Nat) (t : Nat) : (d.answers i h p t).chip = d.chip := rfl
@[simp] theorem Device.answers_log (i : Fin 16) (h : Hdr) (p : List Nat) (t : Nat) : (d.answers i h p t).log = d.log := rfl
@[simp] theorem Device.answers_logQueue (i : Fin 16) (h : Hdr) (p : List Nat) (t : Nat) : (d.answers i h p t).logQueue = d.logQueue := rfl
@[simp] theorem Device.answers_logSkipped (i : Fin 16) (h : Hdr) (p : List Nat) (t : Nat) : (d.answers i h p t).logSkipped = d.logSkipped := rfl
@[simp] theorem Device.answers_sec (i : Fin 16) (h : Hdr) (p : List Nat) (t : Nat) : (d.answers i h p t).sec = d.sec := rfl

/-- Credits change sessions and ports of the link alone. -/
theorem Device.grantCredits_link (i : Fin 16) (h : Hdr) :
    (d.grantCredits i h).link =
      { d.link with sessions := (d.grantCredits i h).link.sessions, ports := (d.grantCredits i h).link.ports } := by
  unfold Device.grantCredits; split <;> try rfl
  split <;> try split
  all_goals rfl

/-- What a frame changes in the link: its sessions, its ports, and what has been sent, where an answer was owed on a port without a
link. -/
theorem Device.heard_link (i : Fin 16) (h : Hdr) :
    (d.heard i h).link =
      { d.link with sessions := (d.heard i h).link.sessions, ports := (d.heard i h).link.ports, sent := (d.heard i h).link.sent } := by
  unfold Device.heard; rw [Device.grantCredits_link]; rfl

@[simp] theorem Device.heard_dealer (i : Fin 16) (h : Hdr) : (d.heard i h).link.dealer = d.link.dealer := by
  rw [Device.heard_link]
@[simp] theorem Device.heard_notifies (i : Fin 16) (h : Hdr) : (d.heard i h).link.notifies = d.link.notifies := by
  rw [Device.heard_link]
@[simp] theorem Device.heard_window (i : Fin 16) (h : Hdr) : (d.heard i h).link.window = d.link.window := by
  rw [Device.heard_link]
@[simp] theorem Device.heard_isDealer (i j : Fin 16) (h : Hdr) : (d.heard i h).isDealer j = d.isDealer j := by
  simp [Device.isDealer]
@[simp] theorem Device.heard_copyState (i : Fin 16) (h : Hdr) (r : RegionIx) : (d.heard i h).copyState r = d.copyState r := by
  simp [Device.copyState]
@[simp] theorem Device.heard_dieOff (i : Fin 16) (h : Hdr) (r : RegionIx) : (d.heard i h).dieOff r = d.dieOff r := by
  simp [Device.dieOff]
@[simp] theorem Device.heard_now (i : Fin 16) (h : Hdr) : (d.heard i h).now = d.now := by simp [Device.now]
@[simp] theorem Device.heard_anyBusy (i : Fin 16) (h : Hdr) : (d.heard i h).anyBusy = d.anyBusy := by simp [Device.anyBusy]

/-- Sending what waits changes the answers of one session: those that wait and those that were sent. -/
theorem Link.sendHeld_session (l : Link) (i : Fin 16) (go : Ret × Reply → Bool) (via : PortIx → PortIx) (j : Nat) (hj : j < 16) :
    ∃ r a, (l.sendHeld i go via).sessions[j] = { l.sessions[j] with record := r, held := a } := by
  by_cases e : i.val = j
  · subst e; exact ⟨_, _, by simp only [Link.sendHeld, Vector.getElem_set_self]; rfl⟩
  · exact ⟨_, _, by simp only [Link.sendHeld]; rw [Vector.getElem_set_ne _ _ e]⟩

/-- Where no answer may be sent, sending what waits changes nothing. -/
theorem Link.sendHeld_none (l : Link) (i : Fin 16) (go : Ret × Reply → Bool) (via : PortIx → PortIx)
    (h : ∀ q ∈ l.sessions[i].held, go q = false) : (l.sendHeld i go via).sent = l.sent := by
  simpa [Link.sendHeld] using fun a b hab => h (a, b) hab

/-- A frame leaves everything about its sessions but what it is counted in: the last frame, the port, the sequence numbers, an open
ReadBlock's credits, and the answers owed on a port without a link. -/
theorem Device.grantCredits_session (i : Fin 16) (h : Hdr) (j : Nat) (hj : j < 16) :
    ∃ t, (d.grantCredits i h).link.sessions[j] = { d.link.sessions[j] with transfer := t } := by
  unfold Device.grantCredits
  split
  · exact ⟨_, rfl⟩
  · split
    · rename_i t _
      split
      · exact ⟨_, rfl⟩
      · by_cases e : i.val = j
        · exact ⟨some { t with credits := t.credits + h.credits }, by rw [Device.onSession_get, if_pos e]; rfl⟩
        · exact ⟨d.link.sessions[j].transfer, by rw [Device.onSession_get, if_neg e]; rfl⟩
    · exact ⟨_, rfl⟩

theorem Device.heard_session (i : Fin 16) (h : Hdr) (j : Nat) (hj : j < 16) :
    ∃ t l p m n r a, (d.heard i h).link.sessions[j] =
      { d.link.sessions[j] with transfer := t, lastFrame := l, lastPort := p, next0 := m, next1 := n, record := r, held := a } := by
  obtain ⟨t, ht⟩ := ((d.frameSeen i h.port).onSession i fun x => x.advance h.port).grantCredits_session i h j hj
  obtain ⟨r, a, hr⟩ := ((d.onSession i fun x => { x with lastFrame := d.now, lastPort := h.port }).link).sendHeld_session i
    (fun q => decide ((d.onSession i fun x => { x with lastFrame := d.now, lastPort := h.port }).link.ports[q.1.port].link = 0) &&
      !(d.onSession i fun x => { x with lastFrame := d.now, lastPort := h.port }).link.sessions[i].waits q.1) (fun _ => h.port) j hj
  rw [Device.heard, ht, Device.onSession_get]
  have hs : (d.frameSeen i h.port).link.sessions[j] = _ := hr
  rw [hs, Device.onSession_get]
  by_cases e : i.val = j <;> by_cases e0 : h.port = 0 <;> simp only [e, e0, if_true, if_false, Session.advance] <;>
    exact ⟨t, _, _, _, _, r, a, rfl⟩

@[simp] theorem Device.heard_secure (i : Fin 16) (h : Hdr) (j : Nat) (hj : j < 16) :
    (d.heard i h).link.sessions[j].secure = d.link.sessions[j].secure := by
  obtain ⟨t, l, p, m, n, r, a, e⟩ := d.heard_session i h j hj
  rw [e]
@[simp] theorem Device.heard_attached (i : Fin 16) (h : Hdr) (j : Nat) (hj : j < 16) :
    (d.heard i h).link.sessions[j].attached = d.link.sessions[j].attached := by
  obtain ⟨t, l, p, m, n, r, a, e⟩ := d.heard_session i h j hj
  rw [e]
@[simp] theorem Device.heard_isSecure (i j : Fin 16) (h k : Hdr) : (d.heard i h).isSecure j k = d.isSecure j k := by
  simp [Device.isSecure]

/-! ### Checks -/

@[simp] theorem firstRefusal_nil : firstRefusal [] = none := rfl

/-- Nothing refuses exactly when no check of the list applies. -/
@[simp] theorem firstRefusal_cons_none (b : Bool) (c r : Nat) (l : List Check) :
    firstRefusal ((b, c, r) :: l) = none ↔ b = false ∧ firstRefusal l = none := by
  rw [firstRefusal]
  cases firstRefusal l <;> cases b <;> simp

@[simp] theorem firstRefusal_append_none (l m : List Check) :
    firstRefusal (l ++ m) = none ↔ firstRefusal l = none ∧ firstRefusal m = none := by
  induction l with
  | nil => simp
  | cons x l ih => obtain ⟨b, c, r⟩ := x; simp [ih, and_assoc]

/-- The rule of a wrong Length does not apply to a write of the right Length. -/
theorem Device.writeChecks_none (t : Target) (w : Data) (s : WSpec) :
    firstRefusal (d.writeChecks t w s) = none ↔
      (d.dieCheck t).1 = false ∧ firstRefusal s.state = none ∧ w.len = s.len ∧ firstRefusal s.value = none := by
  unfold Device.writeChecks Device.dieCheck
  by_cases e : w.len = s.len <;> simp [e]

/-! ### Writes -/

/-- A frame the part acts on is answered as its request says. -/
theorem Device.receive_heard {d : Device} {h : Hdr} {i : Fin 16} (hh : Heard d h i) (type : Nat)
    (act : Fin 16 → Device → Device × Option Reply) : d.receive h type act = match act i (d.heard i h) with
      | (e, some r) => e.respond i (retOf h type) r
      | (e, none) => e := by
  obtain ⟨h1, h2, h3⟩ := hh
  simp only [Device.receive, h1, h2, h3, Bool.not_true, Bool.false_eq_true, if_false, if_true, Device.heard]
  all_goals rfl

/-- The write of a register that nothing refuses: it is applied whole and answered (R358). -/
theorem Device.tryWrite_ok {d : Device} {t : Target} {w : Data} {access : List Check} {s : WSpec}
    (ha : firstRefusal (access ++ s.access) = none) (hc : t.region.elim Copy.same d.copyState = .same)
    (hw : firstRefusal (d.writeChecks t w s) = none) : d.tryWrite t w access s = (s.apply d, some (.ok [])) := by
  simp [Device.tryWrite, ha, hc, hw]

theorem Device.writeReg_ok {d : Device} {h : Hdr} {i : Fin 16} {t : Target} {w : Data} {spec : Fin 16 → Device → WSpec}
    (hm : MayWrite d h i) (ha : firstRefusal (spec i (d.heard i h)).access = none)
    (hw : firstRefusal ((d.heard i h).writeChecks t w (spec i (d.heard i h))) = none) :
    d.writeReg h t w spec = ((spec i (d.heard i h)).apply (d.heard i h)).answers i h [] := by
  obtain ⟨hh, hd, hb, hc⟩ := hm
  have hc' : t.region.elim Copy.same (d.heard i h).copyState = .same := by
    cases t.region with
    | none => rfl
    | some r => simpa using hc r
  have ha' : firstRefusal ((d.heard i h).dealerChecks i ++ (spec i (d.heard i h)).access) = none := by
    simp [Device.dealerChecks, firstRefusal, ha, hd, hb]
  rw [Device.writeReg, Device.receive_heard hh, Device.tryWrite_ok ha' hc' hw]
  rfl

end Sys2Proof.Machine
end

