-- ==== Sys2Proof/Laws/Selection.lean ====
section
/-!
SUPPORT. The sums over stages that Selection keeps are those of R175: the largest |INL| and the sum of its squares over every
code, where INL of a code is the sum of the errors of the stages whose bits it sets.
-/
namespace Sys2Proof.Machine

/-- INL of every code of some stages, from their errors. -/
def codeErrors : List Int → List Int
  | [] => [0]
  | e :: es => codeErrors es ++ (codeErrors es).map (e + ·)

/-- The sums of some stages. -/
def sumsOf : List Int → StageSums
  | [] => {}
  | e :: es => (sumsOf es).add e

theorem codeErrors_length (es : List Int) : (codeErrors es).length = 2 ^ es.length := by
  induction es with
  | nil => rfl
  | cons e es ih => simp [codeErrors, ih, Nat.pow_succ]; omega

theorem sumsOf_bounds (es : List Int) : 0 ≤ (sumsOf es).plus ∧ 0 ≤ (sumsOf es).minus ∧
    ∀ y ∈ codeErrors es, -(sumsOf es).minus ≤ y ∧ y ≤ (sumsOf es).plus := by
  induction es with
  | nil => simp [sumsOf, codeErrors]
  | cons e es ih =>
    obtain ⟨hp, hm, h⟩ := ih
    refine ⟨by simp only [sumsOf, StageSums.add]; omega, by simp only [sumsOf, StageSums.add]; omega, fun y hy => ?_⟩
    simp only [codeErrors, List.mem_append, List.mem_map] at hy
    simp only [sumsOf, StageSums.add]
    rcases hy with hy | ⟨z, hz, rfl⟩
    · have := h y hy; omega
    · have := h z hz; omega

theorem sumsOf_attained (es : List Int) : (sumsOf es).plus ∈ codeErrors es ∧ -(sumsOf es).minus ∈ codeErrors es := by
  induction es with
  | nil => simp [sumsOf, codeErrors]
  | cons e es ih =>
    simp only [codeErrors, List.mem_append, List.mem_map, sumsOf, StageSums.add]
    rcases Int.le_total 0 e with he | he
    · exact ⟨.inr ⟨_, ih.1, by omega⟩, .inl (by rw [max_eq_right (by omega)]; simpa using ih.2)⟩
    · exact ⟨.inl (by rw [max_eq_right (by omega)]; simpa using ih.1), .inr ⟨_, ih.2, by omega⟩⟩

/-- `largest` is the largest |INL| of the codes. -/
theorem sumsOf_largest (es : List Int) : (∀ y ∈ codeErrors es, y.natAbs ≤ (sumsOf es).largest) ∧
    ∃ y ∈ codeErrors es, y.natAbs = (sumsOf es).largest := by
  have hb := sumsOf_bounds es
  have ha := sumsOf_attained es
  refine ⟨fun y hy => ?_, ?_⟩
  · have := hb.2.2 y hy; unfold StageSums.largest; omega
  · rcases Int.le_total (sumsOf es).plus (sumsOf es).minus with h | h
    · exact ⟨_, ha.2, by unfold StageSums.largest; omega⟩
    · exact ⟨_, ha.1, by unfold StageSums.largest; omega⟩

theorem codeErrors_sum (es : List Int) : 2 * (codeErrors es).sum = 2 ^ es.length * (sumsOf es).sum := by
  induction es with
  | nil => simp [codeErrors, sumsOf]
  | cons e es ih =>
    have h : ((codeErrors es).map (e + ·)).sum = (codeErrors es).length * e + (codeErrors es).sum := by
      generalize codeErrors es = l
      induction l with
      | nil => simp
      | cons a l ih => simp [ih]; ring
    simp only [codeErrors, List.sum_append, h, codeErrors_length, sumsOf, StageSums.add, List.length_cons]
    push_cast
    linear_combination 2 * ih

theorem codeErrors_squares (es : List Int) : 4 * ((codeErrors es).map fun y => y * y).sum =
    2 ^ es.length * ((sumsOf es).sum * (sumsOf es).sum + (sumsOf es).squares) := by
  induction es with
  | nil => simp [codeErrors, sumsOf]
  | cons e es ih =>
    have h : (((codeErrors es).map (e + ·)).map fun y => y * y).sum =
        (codeErrors es).length * (e * e) + 2 * e * (codeErrors es).sum + ((codeErrors es).map fun y => y * y).sum := by
      generalize codeErrors es = l
      induction l with
      | nil => simp
      | cons a l ih => simp only [List.map_cons, List.sum_cons, ih, List.length_cons]; push_cast; ring
    have hs := codeErrors_sum es
    simp only [codeErrors, List.map_append, List.sum_append, h, codeErrors_length, sumsOf, StageSums.add, List.length_cons]
    push_cast
    linear_combination 2 * ih + 4 * e * hs

/-- `total` is the sum of the squares of INL over the 1 024 codes of ten stages. -/
theorem sumsOf_total (es : List Int) (h : es.length = 10) :
    ((sumsOf es).total : Int) = ((codeErrors es).map fun y => y * y).sum := by
  have hq := codeErrors_squares es
  have h0 : 0 ≤ ((codeErrors es).map fun y => y * y).sum :=
    List.sum_nonneg (by simp only [List.mem_map]; rintro _ ⟨y, -, rfl⟩; exact mul_self_nonneg y)
  rw [h] at hq
  unfold StageSums.total
  omega

end Sys2Proof.Machine
end

