-- ==== Sys2Proof/WellFormed.lean ====
section
/-!
DEFINITION. Which terms of Instr stand for commands that can come about: every field of a frame has its width (R320,
R322), a frame carries no more bytes than R322 allows, and what the world measures has one value for each thing measured.
-/
namespace Sys2Proof

/-- A number fits a field of `w` bits (R12). -/
def fits (w n : Nat) : Bool := decide (n < 2 ^ w)

/-- Session, Sequence, NodeAddress and Credits fit their fields (R320). -/
def Hdr.wf (h : Hdr) : Bool := fits 16 h.session && fits 32 h.seq && fits 18 h.node && fits 16 h.credits && h.tag.all (fits 16)

/-- A frame of at most 9 216 bytes, Ethernet header and FCS included, with tags of 16 bits (R317). -/
def Frame.wf (f : Frame) : Bool := decide (f.bytes.length + 4 * f.tags.length + 18 ≤ 9216) && f.tags.all (fits 16) && fits 16 f.etherType

/-- A Write carries at most 1 024 bytes, and its value fits them (R322). -/
def Data.wf (d : Data) : Bool := decide (d.len ≤ 1024) && fits (8 * d.len) d.val

/-- Ten lanes are swept over 128 delay settings, for reads and for writes (R269). -/
def TrainResult.wf (t : TrainResult) : Bool :=
  decide (t.passes.length = 20) && t.passes.all (fits 128) && decide (t.refs.length = 20) &&
    t.refs.all fun x => decide (x.1 ≤ x.2) && fits 8 x.2

/-- Widths, densities and ranks that R249 names. -/
def ChanFind.wf (c : ChanFind) : Bool :=
  fits 1 c.width && decide (c.density ≤ 2) && decide (1 ≤ c.ranks ∧ c.ranks ≤ 2) && fits 512 c.timings && c.train.wf

/-- Four channels found, and suspects that are units. -/
def World.wf (w : World) : Bool :=
  w.ch0.wf && w.ch1.wf && w.ch2.wf && w.ch3.wf && w.suspects.all (· < 136)

/-- A pass measures three candidates of ten delay stages, 2^20 hits in 128 taps, two ends of five level DACs and two threshold
offsets, and three candidates of 257 boundaries of five DACs (R174 to R177). -/
def Measure.wf (m : Measure) : Bool :=
  decide (m.delays.length = 30) && decide (m.hits.length = 128) && decide (m.hits.sum = 2 ^ 20) && decide (m.levels.length = 12) &&
    decide (m.tapErr.length = 3855)

/-- What a peek names lies in the memory it reads (R426). -/
def Peek.wf : Peek → Bool
  | .controlStore a => fits 14 a
  | .comb _ e => decide (e < 524288)
  | .failFifo _ i => decide (i < 16384)
  | .keeperSram slot => decide (slot < 2048)

/-- A command that can come about. -/
def Instr.wf : Instr → Bool
  | .porstNRelease _ w => w.wf
  | .porstNFall => true
  | .warmReset w => w.wf
  | .vkeepBelowReset => true
  | .clrNFall => true
  | .foldinNFall => true
  | .mainPllLoss => true
  | .ddrPllLoss _ => true
  | .serdesPllLoss _ => true
  | .railBelowWarning _ => true
  | .railBelowReset _ => true
  | .shedStageAdvance => true
  | .shedRecovery w => w.wf
  | .temperatureUpdate _ _ _ _ phy => decide (phy.length = 4)
  | .powerReportUpdate core dieA dieB total energy volts amps => fits 32 core && fits 32 dieA && fits 32 dieB && fits 32 total && fits 64 energy && decide (volts.length = 12) && decide (amps.length = 12)
  | .downFrame _ _ _ => true
  | .upFrame _ _ _ => true
  | .couplingWrite h d => h.wf && d.wf
  | .timingSetPeriodWrite h _ _ d => h.wf && d.wf
  | .cellTimingWrite h _ _ _ d => h.wf && d.wf
  | .entryIndexWrite h _ d => h.wf && d.wf
  | .anchoredEntriesWrite h _ d => h.wf && d.wf
  | .stallPolicyWrite h _ d => h.wf && d.wf
  | .runClassWrite h _ _ => h.wf
  | .runAdmit h _ _ => h.wf
  | .runStart h _ _ => h.wf
  | .runStop h _ _ => h.wf
  | .runAbort h _ _ => h.wf
  | .admissionComplete _ => true
  | .prefillComplete _ => true
  | .scheduledStartDue => true
  | .vectorIssue _ _ _ => true
  | .holdVectorIssue _ => true
  | .seqHalt _ => true
  | .seqPlay _ => true
  | .seqRepeat _ => true
  | .seqLoop _ => true
  | .seqEndloop _ => true
  | .seqMatch _ => true
  | .seqJump _ => true
  | .seqBranch _ => true
  | .seqCall _ => true
  | .seqReturn _ => true
  | .seqWait _ => true
  | .seqSignal _ => true
  | .ringEntryArrival _ => true
  | .failAccumulatorSet _ => true
  | .drainComplete _ => true
  | .driveEdge _ => true
  | .frcEdge _ => true
  | .strobeEvent _ => true
  | .comparatorCrossing _ _ _ _ => true
  | .levelsWrite h _ sub d => h.wf && fits 8 sub && d.wf
  | .levelsSettled _ => true
  | .formatTermWrite h _ d => h.wf && d.wf
  | .strobeCountersClear h _ d => h.wf && d.wf
  | .pathRequestWrite h _ d => h.wf && d.wf
  | .switchSensed _ => true
  | .staticDriveWrite h _ d => h.wf && d.wf
  | .tallyVectorProcess _ _ => true
  | .tallyFreeze h _ => h.wf
  | .tallyUnfreeze h _ => h.wf
  | .tallyIdleTimeout _ => true
  | .tallyWriteComplete _ _ => true
  | .tmuModeWrite h _ d => h.wf && d.wf
  | .tmuArm h _ => h.wf
  | .tmuDisarm h _ => h.wf
  | .tmuClearResults h _ => h.wf
  | .tmuWindowClose _ => true
  | .tmuGateClose _ => true
  | .calibrate h _ => h.wf
  | .cancel h _ => h.wf
  | .requestAll h _ => h.wf
  | .cancelPending h _ => h.wf
  | .calRequestStart _ => true
  | .preloadComplete _ => true
  | .swapIn _ => true
  | .swapBack _ => true
  | .quietTimeout _ => true
  | .deferRetryExpiry _ => true
  | .calPassComplete _ m => m.wf
  | .gradualStep _ => true
  | .backgroundVisit _ _ _ _ levels hits => decide (levels.length = 10) && decide (hits.length = 128) && decide (hits.sum = 2 ^ 18)
  | .refFaultClear _ => true
  | .remapPositionWrite h _ d => h.wf && d.wf
  | .pmuConfigWrite h _ sub d => h.wf && fits 8 sub && d.wf
  | .measure h _ => h.wf
  | .abortMeasure h _ => h.wf
  | .restore h _ => h.wf
  | .clearFlags h _ => h.wf
  | .settleExpiry _ => true
  | .adcConversionSlot _ code => fits 18 code
  | .pmuShort _ => true
  | .clampActiveOnset _ => true
  | .kelvinOpen _ => true
  | .clearValuesWrite h _ d => h.wf && d.wf
  | .ddsStart h _ => h.wf
  | .ddsStop h _ => h.wf
  | .ddsFreeze h _ => h.wf
  | .ddsResume h _ => h.wf
  | .ddsUpdate _ => true
  | .ddsRouteEnableWrite h _ d => h.wf && d.wf
  | .amplitudeWrite h _ d => h.wf && d.wf
  | .sentinelTick _ => true
  | .sentinelSample _ _ => true
  | .blankTimeExpiry _ => true
  | .sentinelCrossing _ _ => true
  | .sentinelTrip _ => true
  | .releaseTimeExpiry _ => true
  | .releaseTrip h _ => h.wf
  | .sentinelClearCounts h _ => h.wf
  | .sentinelReadback _ code => fits 18 code
  | .sentinelConfigWrite h _ sub d => h.wf && fits 8 sub && d.wf
  | .dramReadComplete _ _ _ => true
  | .dramWriteComplete _ _ _ => true
  | .refreshInterval _ _ moments => fits 4 moments
  | .pageIdleTimeout _ _ _ => true
  | .writeQueueAge _ => true
  | .tokenRefill _ => true
  | .retrain h _ => h.wf
  | .retrainComplete _ t => t.wf
  | .serviceExitIdle _ => true
  | .loadFenceRequest h d => h.wf && d.wf
  | .fenceComplete => true
  | .shadowSelectWrite h _ d => h.wf && d.wf
  | .frequencyChangeComplete _ t0 t1 back0 back1 => t0.wf && t1.wf && back0.wf && back1.wf
  | .dramConfigWrite h _ sub d => h.wf && fits 8 sub && d.wf
  | .dramShadowWrite h _ sub d => h.wf && fits 8 sub && d.wf
  | .portRegulatorWrite h _ sub d => h.wf && fits 8 sub && d.wf
  | .offerArrival _ => true
  | .enable h _ => h.wf
  | .disable h _ => h.wf
  | .fire h _ => h.wf
  | .reconfirm h _ => h.wf
  | .waggleClearCounts h _ => h.wf
  | .reclaim h _ => h.wf
  | .clearConsumers h d => h.wf && d.wf
  | .evioEdge _ _ => true
  | .evioPulseEnd _ => true
  | .routineStart _ => true
  | .microNop _ _ => true
  | .microMov _ _ => true
  | .microAdd _ _ => true
  | .microSub _ _ => true
  | .microAnd _ _ => true
  | .microOr _ _ => true
  | .microXor _ _ => true
  | .microShl _ _ => true
  | .microShr _ _ => true
  | .microCmp _ _ => true
  | .microRdobj _ _ => true
  | .microWrobj _ _ => true
  | .microAddobj _ _ => true
  | .microRdunit _ _ => true
  | .microWrunit _ _ => true
  | .microBr _ _ => true
  | .microCommit _ _ => true
  | .microEnd _ _ => true
  | .microFault _ _ => true
  | .microLog _ _ => true
  | .routineTimeLimit _ => true
  | .armBank0 h => h.wf
  | .armBank1 h => h.wf
  | .patchDisarm h => h.wf
  | .attach h hostId upper => h.wf && fits 48 hostId && fits 16 upper
  | .detach h => h.wf
  | .write h idx sub d => h.wf && fits 16 idx && fits 8 sub && d.wf
  | .readblock h idx sub off len => h.wf && fits 16 idx && fits 8 sub && fits 64 off && fits 64 len
  | .blockDataSend _ => true
  | .writeblock h idx sub off len => h.wf && fits 16 idx && fits 8 sub && fits 64 off && fits 64 len
  | .blockData h off bytes => h.wf && fits 64 off && decide (bytes.length ≤ 8192)
  | .blockTransferTimeout _ => true
  | .notifyAck h => h.wf
  | .notifyRetransmit => true
  | .claim h prio cls => h.wf && fits 8 prio && fits 8 cls
  | .electionWindowClose => true
  | .yield h successor => h.wf && fits 16 successor
  | .heartbeat h => h.wf
  | .heartbeatLapse => true
  | .dealerVacatedReady => true
  | .sessionTimeout _ => true
  | .sync h _ time regions source hostId => h.wf && fits 64 time && fits 8 regions && fits 8 source && fits 48 hostId
  | .scheduledStartWrite h sub d => h.wf && fits 8 sub && d.wf
  | .challenge h nonce => h.wf && fits 128 nonce
  | .answer h mac => h.wf && fits 256 mac
  | .lockoutExpiry => true
  | .ptpMessage _ domain gm _ delay _ => fits 8 domain && fits 64 gm && fits 64 delay
  | .frameDiscarded f => f.wf
  | .linkDown _ => true
  | .linkUp _ _ _ => true
  | .wakeFrame _ _ node w => fits 18 node && w.wf
  | .nodeAddressWrite h d => h.wf && d.wf
  | .sync0Edge => true
  | .sync1Edge => true
  | .syncPulse h => h.wf
  | .syncStop h => h.wf
  | .modeRequestConfigure h => h.wf
  | .stalenessCheckDone _ _ _ t0 t1 suspects => t0.wf && t1.wf && suspects.all (· < 136)
  | .modeRequestReady h => h.wf
  | .modeRequestCalibrate h => h.wf
  | .modeRequestOff h => h.wf
  | .modeRequestStandby h => h.wf
  | .modeRequestDormant h => h.wf
  | .resume h => h.wf
  | .leaveFold h => h.wf
  | .modeRequestDone => true
  | .clearPeak h d => h.wf && d.wf
  | .collectorClear h _ d => h.wf && d.wf
  | .collectorParityError _ => true
  | .clearBalanceVoid h => h.wf
  | .clearChipParity h => h.wf
  | .inject h => h.wf
  | .injectParity h => h.wf
  | .injectionHoldExpiry => true
  | .logEntryWrite => true
  | .logClear h => h.wf
  | .keyProvision h d => h.wf && d.wf
  | .seal h => h.wf
  | .retire h => h.wf
  | .discardKey h => h.wf
  | .fuseProgrammingComplete _ => true
  | .unlockToken h d => h.wf && d.wf
  | .lock h => h.wf
  | .unlockExpiry => true
  | .tapReset => true
  | .tapIdcode => true
  | .tapSamplePreload => true
  | .tapExtest => true
  | .tapClamp => true
  | .tapHighz => true
  | .dbgctl _ _ => true
  | .dbgpeek what => what.wf
  | .tapBypass => true
  | .vkeepApplied => true
  | .railAboveWarning _ => true
  | .clrNRise => true
  | .foldinNRise => true
  | .mainPllRelock => true
  | .ddrPllRelock _ => true
  | .serdesPllRelock _ => true
  | .pmuShortRelease _ => true
  | .kelvinDifferenceCleared _ => true
  | .clampActiveEnd _ => true
  | .ptpMasterLost => true

end Sys2Proof
end

