-- ==== Sys2Proof/Tests/Slice0.lean ====
section
/-!
SUPPORT. The row's own tests: commands that the checks of WellFormed refuse, one step of a few commands with results that the
spec gives, and, for each obligation with hypotheses, states and operands that meet those of its clauses.
-/
open Sys2Proof Sys2Proof.Machine
namespace Sys2Proof.Tests
-- Each test is checked before the next one is read.
set_option Elab.async false

/-! ### States to start from -/

/-- A Dealer record of session 1. -/
def deal : DealerRec := { session := 1, hostId := 5, priority := 9, cls := 1 }
/-- A part that runs, both regions in Ready, with session 1 as its Dealer and session 2 as an Observer on THK0. -/
def live : Device :=
  { Device.reset with
    modes := { porst := true, coreDie := true, clocks := true, pllLocked := true, mode := .ready }
    regions := Vector.replicate 2 { Region.reset with mode := .ready, dealer := deal }
    link := { ports := Vector.replicate 2 { link := 3, pllLocked := true }
              sessions := ((Vector.replicate 16 {}).set 0 { attached := true, hostId := 5 }).set 1 { attached := true, hostId := 6 }
              dealer := deal } }
/-- A frame of session 1 at its turn. -/
def h1 : Hdr := { port := 0, session := 1, seq := 0, node := 0, credits := 0, secure := false, trailerOk := true }
/-- A frame of session 2 at its turn. -/
def h2 : Hdr := { h1 with session := 2 }
/-- A frame to the part without a tag. -/
def plain : Frame := { port := 0, dst := .own, tags := [], etherType := 0x88B5, fcsOk := true, bytes := [] }
/-- A value of some bytes. -/
def data (n v : Nat) : Data := { len := n, val := v }
/-- The state with a device and no command waiting. -/
def waiting (d : Device) : State := { pending := [], dev := d }
/-- The device with region A changed. -/
def onA (f : Region → Region) : Device := live.onRegion 0 f
/-- The device with region A in a mode. -/
def moded (m : RMode) : Device := onA fun x => { x with mode := m }
/-- The device with cell 0 changed. -/
def on0 (f : Cell → Cell) : Device := live.onCell 0 f
/-- The device with block 0 changed. -/
def onJ (f : Block → Block) : Device := live.onBlock 0 f
/-- A sequencer instruction of an opcode, Count 1. -/
def seqWord (op : Nat) : BitVec 128 := BitVec.ofNat 128 (op * 2 ^ 124 + 2 ^ 64)
/-- An instruction of an opcode, with a Count, a Target and an operand. -/
def instr (op count target a : Nat) : BitVec 128 := BitVec.ofNat 128 (op * 2 ^ 124 + count * 2 ^ 64 + target * 2 ^ 32 + a)
/-- A run of region A in a state, at an instruction. -/
def running (st : RunState) (w : BitVec 128) (c : Cursor) : Device :=
  onA fun x => { x with mode := .run, run := { state := st }, program := [w], seq := { cur := c, nextStart := some 2048, lastPeriod := 2048 } }

/-! ### Hypotheses that are met -/

theorem witness_MemoryStaysCanonical : ∃ t, Memory.wf live = true ∧ step { pending := [.logEntryWrite], dev := live } = .next t :=
  ⟨_, by decide, rfl⟩
theorem witness_BalancesAreKept :
    ∃ t, (∀ c, ({ pending := [.logEntryWrite], dev := live } : State).pending.head? = some c → pokes c = false) ∧ Machine.Balanced live ∧
      step { pending := [.logEntryWrite], dev := live } = .next t :=
  ⟨_, by intro c h; cases h; rfl, by unfold Machine.Balanced; decide, rfl⟩
theorem witness_OnlyFuseProgrammingMovesTheLifecycle :
    (step { pending := [.fuseProgrammingComplete true], dev := { live with sec := { live.sec with sealing := some true } } } =
      .next (waiting (({ live with sec := { live.sec with sealing := some true } } : Device).fusesDone true))) ∧
    ((({ live with sec := { live.sec with sealing := some true } } : Device).fusesDone true).sec.lifeFuse = .sealed) ∧
    ((({ live with sec := { live.sec with sealing := some false } } : Device).fusesDone true).sec.lifeFuse = .retired) ∧
    live.sec.lifeFuse = .openLife := ⟨rfl, rfl, rfl, rfl⟩
theorem witness_LeastRefusalIsAnswered : firstRefusal [(true, 5, 1), (false, 3, 1), (true, 4, 6), (true, 4, 1)] = some { code := 4, reason := 1 } := by
  decide +kernel
theorem witness_WriteIsWholeOrRefused :
    MayWrite live h1 0 ∧ (∀ r, live.copyState r = .same) ∧ domainAt 0x3010 = none ∧
    (∃ o, (live.heard 0 h1).objectAt 0x3010 = some o ∧ ∃ e ∈ o.entries, e.sub = 2) ∧
    (∃ m, (live.heard 0 h1).specAt (sessNo 0) ((live.heard 0 h1).isSecure 0 h1) 0x3010 2 7 = some m ∧ firstRefusal m.access = none ∧
      firstRefusal ((live.heard 0 h1).writeChecks (targetOf 0x3010 2) (data 2 7) m) = none) :=
  ⟨by decide, by decide, by decide, ⟨_, rfl, by decide⟩, ⟨_, rfl, by decide, by decide⟩⟩
theorem witness_OthersRequestsAreNotExecuted :
    Heard live h2 1 ∧ live.isDealer 1 = false ∧ live.sec.life ≠ .blank ∧
    live.linkUp h1.port = true ∧ live.frameOk { h1 with seq := 2 ^ 32 - 1 } = some 0 ∧ live.link.sessions[(0 : Fin 16)].expected 0 = 0 := by
  decide +kernel
theorem witness_RegionCopiesGuardWrites :
    Heard live h1 0 ∧ live.isDealer 0 = true ∧ live.sec.life ≠ .blank ∧
    (let d := onA fun x => { x with dealer := { deal with epoch := 0 } }
     Heard d h1 0 ∧ d.isDealer 0 = true ∧ d.regions[(0 : Fin 2)].dealer.epoch < d.link.dealer.epoch) ∧
    (let d := onA fun x => { x with dealer := { deal with session := 2 } }
     Heard d h1 0 ∧ d.isDealer 0 = true ∧ d.regions[(0 : Fin 2)].dealer.epoch = d.link.dealer.epoch) ∧
    (let d := onA fun x => { x with dealer := { deal with epoch := 2 } }
     Heard d h1 0 ∧ d.isDealer 0 = true ∧ d.link.dealer.epoch < d.regions[(0 : Fin 2)].dealer.epoch) ∧
    (targetOf 0x3010 2).region = some 0 ∧
    (∃ o, (live.heard 0 h1).objectAt 0x3010 = some o ∧ ∃ e ∈ o.entries, e.sub = 2) ∧
    (∃ m, (live.heard 0 h1).specAt (sessNo 0) ((live.heard 0 h1).isSecure 0 h1) 0x3010 2 7 = some m ∧ firstRefusal m.access = none) :=
  ⟨by decide, by decide, by decide, by decide, by decide, by decide, by decide, ⟨_, rfl, by decide⟩, ⟨_, rfl, by decide⟩⟩
theorem witness_SetupWritesStore :
    MayWrite live h1 0 ∧ live.anyBusy = false ∧ live.regions[(0 : Fin 2)].busyMode = false ∧ live.modes.coupled = false ∧
    MayWrite (moded .run) h1 0 ∧ (moded .run).anyBusy = true ∧ (moded .run).regions[(0 : Fin 2)].busyMode = true ∧
    (data 2 16383).val ≤ 16383 ∧ (data 4 491520).val % 4096 = 0 ∧ (data 4 491521).val % 4096 ≠ 0 ∧ (data 4 0x100).val / 256 % 256 ≠ 0 := by
  decide +kernel
theorem witness_RunCtlRowsAct :
    MayWrite live h1 0 ∧ (0x8 : BitVec 32).toNat / 16 % 4 ≠ 3 ∧ (0x2 : BitVec 32).toNat % 16 = 2 ∧ live.follows 0 = false ∧
    MayWrite (running .running 0 {}) h1 0 ∧ (running .running 0 {}).regions[(0 : Fin 2)].run.inProgress = true ∧
    RunClass.ofCode ((1 : BitVec 32).toNat / 16 % 4) = live.regions[(0 : Fin 2)].run.cls ∧
    firstRefusal (live.startChecks 0 ((1 : BitVec 32).toNat.testBit 8)) = none := by
  decide +kernel
theorem witness_RunEventsMoveTheRun :
    live.follows 0 = false ∧ (onA fun x => { x with adm := { x.adm with result := .evaluating } }).regions[(0 : Fin 2)].adm.result = .evaluating ∧
    (let d := onA fun x => { x with run := { state := .prefill }, fetch := { stopped := true } }
     d.regions[(0 : Fin 2)].run.state = .prefill ∧ ∀ g ∈ d.group 0, d.regions[g].prefilled = true) ∧
    (let d := onA fun x => { x with run := { state := .armed, scheduled := true } }
     ({ d with sched := { regions := 1 } } : Device).dueRuns ≠ [] ∧ d.modes.clocks = true ∧ d.armedRuns ≠ [] ∧
     ({ d with sched := { regions := 1, source := 2, role := 2 } } : Device).dueRuns ≠ [] ∧
     ({ d with sched := { role := 1, source := 1 } } : Device).armedRuns ≠ []) ∧
    live.armedRuns = [] ∧
    (let d := onA fun x => { x with run := { state := .draining, drainReason := 1 } }
     d.regions[(0 : Fin 2)].run.state = .draining ∧ d.endings 0 = [] ∧ ∀ g ∈ d.group 0, d.settled g = true) := by
  decide +kernel
theorem witness_SequencerInstructionsAct :
    Decides (running .running (seqWord 3) {}) 0 .loop (seqWord 3) ∧
    Decides (running .running (seqWord 4) { loops := [(0, 2)] }) 0 .endloop (seqWord 4) ∧
    Decides (running .running (seqWord 4) { loops := [(0, 1)] }) 0 .endloop (seqWord 4) ∧
    Decides (running .running (seqWord 6) {}) 0 .jump (seqWord 6) ∧ Decides (running .running (seqWord 8) {}) 0 .call (seqWord 8) ∧
    Decides (running .running (seqWord 9) { calls := [5] }) 0 .ret (seqWord 9) ∧
    Decides (running .running (seqWord 11) {}) 0 .signal (seqWord 11) ∧
    Decides (running .running (seqWord 1) {}) 0 .play (seqWord 1) ∧ Decides (running .prefill (seqWord 2) {}) 0 .repeat (seqWord 2) ∧
    Decides (running .holding (seqWord 0) {}) 0 .halt (seqWord 0) := by
  decide +kernel
theorem witness_ConditionsDecideTransfers :
    Decides (running .running (seqWord 7) {}) 0 .branch (seqWord 7) ∧ Decides (running .running (seqWord 5) {}) 0 .matchOp (seqWord 5) ∧
    Decides (running .running (seqWord 10) {}) 0 .wait (seqWord 10) ∧
    (running .running (seqWord 10) {}).regions[(0 : Fin 2)].seq.nextStart ≠ none := by
  decide +kernel
/-- A run of region A whose next vector is of a segment at an address. -/
def issuing (a : Nat) (hold : Option HoldKind) (f : Prefetch) : Device :=
  onA fun x =>
    { x with mode := .run, run := { state := .running }, fetch := f
             seq := { busy := true, nextStart := some 2048, seg := { op := .play, address := a, left := 2 }, hold } }
theorem witness_SlotsIssueVectors :
    (issuing 0x80000000 none {}).late 0 = [] ∧ (issuing 0x00000000 none {}).late 0 ≠ [] ∧
    (issuing 0 (some .stall) { stopped := true }).holdOver 0 = true ∧ (issuing 0 (some .redirect) {}).holdOver 0 = false ∧
    (issuing 0 none { returned := [[]] }).regions[(0 : Fin 2)].fetch.returned = [[]] ∧
    (let q : Result := { order := 0, pos := 0, closes := 0, judged := true, failed := true }
     (onA fun x => { x with lagged := [q], seq := { nextStart := some 655360 } }).regions[(0 : Fin 2)].lagged.find?
       (fun q => q.due (some 655360)) = some q) ∧
    (let d := running .running (instr 5 2 0 0x80000000) {}
     let d := d.onSeq 0 fun q => { q with iterations := [{ count := 1, first := some 0 }] }
     d.endings 0 = [] ∧ d.regions[(0 : Fin 2)].seq.busy = false ∧ d.regions[(0 : Fin 2)].seq.hold = none ∧
     seqOp (d.instr 0) = some .matchOp ∧ d.regions[(0 : Fin 2)].seq.iterations ≠ [] ∧ d.late 0 = [] ∧
     (d.match' 0 (d.instr 0)).late 0 = []) ∧
    (let d := (running .running 0 {}).endAtNext 0 3
     d.endings 0 = [0] ∧ d.regions[(0 : Fin 2)].run.ending = some 3 ∧ d.regions[(0 : Fin 2)].run.inProgress = true) := by
  decide +kernel
theorem witness_FramesCarryVectors :
    live.linkRuns 0 = true ∧ (crossLink 18 (frameWords (live.regions[(0 : Fin 2)].nextFrame)) 0 0).ok = true ∧
    (crossLink 18 (frameWords (live.regions[(0 : Fin 2)].nextFrame)) 3 0).ok = false ∧
    (crossLink 5 (upWords (live.regions[(0 : Fin 2)].nextUp)) 0 0).ok = true ∧
    (crossLink 5 (upWords (live.regions[(0 : Fin 2)].nextUp)) 3 0).ok = false := by decide +kernel
theorem witness_CellEventsAct :
    (on0 fun x => { x with edges := [{ at' := 5, act := .off }] }).cells[(0 : Fin 128)].edges = [{ at' := 5, act := .off }] ∧
    (let x := (on0 fun x => { x with edges := [{ at' := 5, act := .clock }]
                                     frc := { running := true, gate := .low, next := 9, ctl := [{ at' := 4, op := .z }] } }).cells[(0 : Fin 128)]
     x.edges = [{ at' := 5, act := .clock }] ∧ x.frc.ctl = [{ at' := 4, op := .z }] ∧ x.frc.running = true ∧ 4 ≤ x.frc.next ∧ x.frc.gate = .low) ∧
    (let x := (on0 fun x => { x with frc := { running := true, rises := true } }).cells[(0 : Fin 128)]
     x.frc.ctl = [] ∧ x.frc.stopping = false ∧ x.frc.wantOff = false ∧ x.frc.off = false ∧ x.frc.want = .run) ∧
    (let x := (on0 fun x => { x with path := { x.path with levelsSettling := true }, pmuStatus := { x.pmuStatus with clearHeld := false } }).cells[(0 : Fin 128)]
     x.path.levelsSettling = true ∧ x.pmuStatus.clearHeld = false ∧ x.path.step ≠ some .bridgeIn ∧ x.path.step ≠ some .bridgeOut) := by
  decide +kernel
theorem witness_StrobesAndCrossingsAct :
    (let q : Strobe := { cycle := 0, wraps := 0, index := 0, address := 0, tset := 0, ordinal := 0, ask := .masked, mode := 0, opens := 0
                         closes := 9, start := 0, maskAll := false, bad := false }
     (on0 fun x => { x with strobes := [q] }).cells[(0 : Fin 128)].strobes = [q]) ∧
    live.cells[(0 : Fin 128)].path.levelsSettling = false ∧
    (let x := (on0 fun x => { x with path := { x.path with state := .digital, swDigital := true }, voh := some true, vol := some false }).cells[(0 : Fin 128)]
     x.path.compares = true ∧ x.voh = some true) ∧ live.cells[(0 : Fin 128)].path.compares = false := by
  decide +kernel
theorem witness_CellWritesAct :
    MayWrite live h1 0 ∧ live.dieOff (cellRegion 0) = false ∧ firstRefusal ((live.cells[(0 : Fin 128)].levels.put 1 500000).checks) = none ∧
    (data 4 0).val % 4 ≠ 3 ∧ live.folded 0 = false ∧ live.cells[(0 : Fin 128)].path.state ≠ .switching ∧
    MayWrite (moded .run) h1 0 ∧ (moded .run).swingOk 0 ((moded .run).cells[(0 : Fin 128)].levels.put 1 500000) = true := by
  decide +kernel
/-- A vector of region A that waits for nothing but its mask. -/
def vector : VecRec :=
  { cycle := 0, wraps := 0, index := 0, address := 0, tset := 0, kind := 0, hold := false, symbols := 0, start := 0, period := 2048
    order := 0, failMask := 1, applied := true, returned := true }
/-- A record of the fail FIFO. -/
def record : FailRecord :=
  { mask := 1, joker := false, newPins := false, partner := false, kind := 0, tset := 0, address := 0, index := 0, cycle := 0 }
/-- The record as a group holds it. -/
def grouped : WriteRecord := { data := 1, gap := 0 }
/-- Region A's Tally with a record to write, its DRAM in service on channel A0 alone, with a token for port T. -/
def tallying : Device :=
  (onA fun x => { x with dram := { x.dram with inService := 1, ranks := 1, failBytes := 192, capacity := 4096, state := .active
                                               regT := { x.dram.regT with tokens := 1 } }
                         tally := { x.tally with state := .capturing, writing := [grouped] } }).onDram 0 fun c => { c with state := .trained }
theorem witness_TallyCommandsAct :
    MayWrite live h1 0 ∧ (onA fun x => { x with vecs := [vector] }).regions[(0 : Fin 2)].vecs = [vector] ∧ vector.applied = true ∧
    vector.returned = true ∧ (onA fun x => { x with vecs := [vector] }).partnerComplete 0 vector = true ∧
    (let d := (tallying.onTally 0 fun t => t.strike []).drain 0
     d.regions[(0 : Fin 2)].tally.writing ≠ [] ∧ d.draining 0 = true ∧ d.tallyGrant 0 = true ∧
     d.regions[(0 : Fin 2)].dram.areaCapacity ≠ 0 ∧ d.regions[(0 : Fin 2)].dram.place (d.tallyBurst 0).burst ≠ none) ∧
    (let q : FifoRecord := { data := 3, chk := 0 }
     (onA fun x => { x with tally := { x.tally with fifo := [q] } }).regions[(0 : Fin 2)].tally.fifo = [q] ∧ q.check.ok = false) := by
  decide +kernel
theorem witness_TallyKeepsTheFailBalance :
    (let x := (onA fun x => { x with tally := { x.tally with
      state := .capturing, fifo := [record.store 0], counters := { failVectors := 1, fails := 1 } } }).regions[(0 : Fin 2)].tally
     x.state ≠ .held ∧ x.counters.fails = x.counters.stored + x.counters.drops + x.level ∧
     x.counters.failVectors = x.counters.fails + x.counters.notSelected + x.counters.frozenSkipped) ∧
    ∃ t, exec (.tallyVectorProcess 0 []) (waiting live) = .next t := ⟨by decide, _, rfl⟩
theorem witness_StampersAct :
    MayWrite live h1 0 ∧ live.dieOff (cellRegion 0) = false ∧ live.cells[(0 : Fin 128)].tmuResult.state ≠ .capturing ∧
    live.cells[(0 : Fin 128)].tmu.polarity ≠ 3 ∧
    (let x := (on0 fun x => { x with tmu := { x.tmu with mode := .armed }, tmuResult := { x.tmuResult with state := .idle } }).cells[(0 : Fin 128)]
     x.tmu.mode = .armed ∧ x.tmu.armSource = 0 ∧ x.tmuResult.state = .idle) ∧
    (let q : Window := { start := 0, opens := 0, expect := none, rise := none, fall := none }
     (on0 fun x => { x with windows := [q] }).cells[(0 : Fin 128)].windows = [q]) ∧
    (∀ m ∈ [TmuMode.armed, .interval, .frequency],
      let x := (on0 fun x => { x with tmu := { x.tmu with mode := m }, tmuResult := { x.tmuResult with state := .capturing, gatesLeft := 1 } }).cells[(0 : Fin 128)]
      x.tmuResult.gating = true ∧ x.tmu.mode = m ∧ x.tmuResult.gatesLeft ≤ 1) := by
  decide +kernel
/-- Cell 0 with its calibration in an activity. -/
def calAt (a : CalActivity) : Device := on0 fun x => { x with cal := { x.cal with activity := a } }
theorem witness_CalibrationCommandsAct :
    MayWrite live h1 0 ∧ live.dieOff (blockRegion (unitBlock 0)) = false ∧ (live.cal (unitBlock 0) (unitPlace 0)).activity = .idle ∧
    (live.cal (unitBlock 135) (unitPlace 135)).activity = .idle ∧
    ((calAt .pending).cal (unitBlock 0) (unitPlace 0)).activity = .pending ∧ ((calAt .deferred).cal (unitBlock 0) (unitPlace 0)).activity = .deferred ∧
    live.regions[blockRegion 0].busyMode = false ∧ live.blocks[(0 : Fin 8)].role = .idle ∧ live.blocks[(0 : Fin 8)].remapPosition = 0xFF ∧
    live.cells[blockCell 0 15].path.state ≠ .switching ∧ (onJ fun x => { x with remapPosition := 15 }).blocks[(0 : Fin 8)].remapPosition < 16 := by
  decide +kernel
/-- Block 0 with a role, its Joker at position 0, and cell 0 with a path and an activity. -/
def swapping (role : JokerRole) (st : PathState) (a : CalActivity) (step : Option PathStep) : Device :=
  (onJ fun x => { x with role := role, position := some 0 }).onCell 0 fun x =>
    { x with path := { x.path with state := st, substituted := decide (st = .joker), step := step }, cal := { x.cal with activity := a } }
/-- A pass with a value for each thing measured: 8 192 hits in each tap. -/
def wholePass : Measure :=
  { delays := List.replicate 30 0, hits := List.replicate 128 8192, drive := 0, compare := 0, levels := List.replicate 12 0
    tapErr := List.replicate 3855 0 }
theorem witness_SwapsAndPassesAct :
    (let q : CalRequest := { unit := 3, byCommand := true }
     let d := onJ fun x => { x with queue := [q] }
     d.blocks[(0 : Fin 8)].active = none ∧ d.shed.stage = 0 ∧ d.regions[blockRegion 0].mode.active = true ∧ d.calOrder 0 = [q]) ∧
    (swapping .preloading .digital .preloading none).blocks[(0 : Fin 8)].role = .preloading ∧
    (let d := swapping .tracking .digital .tracking none
     d.blocks[(0 : Fin 8)].role = .tracking ∧ d.blocks[(0 : Fin 8)].position = some 0 ∧ d.cells[blockCell 0 0].cal.activity = .tracking ∧
     d.cells[blockCell 0 0].path.state = .digital ∧ d.cells[blockCell 0 0].dds.enable = false ∧ d.quiet (blockCell 0 0) = true) ∧
    (let d := swapping .substituting .joker .awaitSwapBack none
     d.blocks[(0 : Fin 8)].position = some 0 ∧ d.cells[blockCell 0 0].cal.activity = .awaitSwapBack ∧
     d.cells[blockCell 0 0].path.state = .joker ∧ d.cells[blockCell 0 0].path.substituted = true ∧ d.quiet (blockCell 0 0) = true) ∧
    (swapping .tracking .bridge .tracking (some .bridgeIn)).cells[(0 : Fin 128)].path.step = some .bridgeIn ∧
    (swapping .substituting .bridge .awaitSwapBack (some .bridgeOut)).cells[(0 : Fin 128)].path.step = some .bridgeOut ∧
    ((calAt .deferred).cal (unitBlock 0) (unitPlace 0)).activity = .deferred := by
  decide +kernel
theorem witness_passes :
    let a := wholePass
    agrees a a = true ∧ agrees a { a with drive := 3 } = false ∧
    (let d := on0 fun x => { x with cal := { x.cal with activity := .calibrating, passA := some a, repeats := 3 } }
     (d.cal (unitBlock 0) (unitPlace 0)).activity = .calibrating ∧ (d.cal (unitBlock 0) (unitPlace 0)).passA = some a ∧
     3 ≤ (d.cal (unitBlock 0) (unitPlace 0)).repeats) := by
  decide +kernel
theorem witness_CorrectionsStepAndVisitsAct :
    live.regions[blockRegion 0].mode.active = true ∧ live.shed.stage = 0 ∧ live.regions[blockRegion 0].calPolicy.background = true ∧
    (live.cal 0 0).activity.working = false ∧ ((calAt .calibrating).cal 0 0).activity.working = true ∧
    (let w : Walk := { target := 1, applied := 0 }
     w.applied < w.target) ∧
    (let steady := fun (d : Device) => (d.blocks[(0 : Fin 8)].refvReading - 2500000).natAbs ≤ 10000 ∧
       d.blocks[(0 : Fin 8)].refOff + 3276800000000 ≤ d.time
     steady { (onJ fun x => { x with refvReading := 2510000, refOff := 1 }) with time := 3276800000001 } ∧
     ¬steady { (onJ fun x => { x with refvReading := 2510001, refOff := 1 }) with time := 3276800000001 } ∧
     ¬steady { (onJ fun x => { x with refvReading := 2510000, refOff := 1 }) with time := 3276800000000 }) := by
  decide +kernel
theorem witness_PmuWritesAct :
    MayWrite live h1 0 ∧ live.dieOff (cellRegion 0) = false ∧ live.regions[cellRegion 0].mode ≠ .calibrate ∧
    live.cells[(0 : Fin 128)].pmuStatus.transitional = false ∧
    (let x := live.cells[(0 : Fin 128)]
     let p := x.pmu.put 1 1
     firstRefusal (pmuValue 1 1 p :: p.combos x.dds) = none ∧ p.mode ≠ x.pmu.mode ∧ x.path.swPmu = false ∧ x.paramRole = false ∧
     x.loadRole = false ∧ x.moving = false ∧ x.dds.enable = false ∧ x.pmuStatus.shortNow = false ∧ x.pmuStatus.kelvinNow = false) ∧
    (let x := (on0 fun x => { x with path := { x.path with state := .parametric, swPmu := true }, pmu := { x.pmu with mode := .forceVoltage } }).cells[(0 : Fin 128)]
     x.pmu.waggle = false ∧ x.meas.state = .idle ∧ x.pmu.mode = .forceVoltage ∧ x.senses = true ∧
     -2000000 ≤ x.pmu.forceVoltage - x.dds.amplitude ∧ x.pmu.forceVoltage + x.dds.amplitude ≤ 7000000) ∧
    live.modes.clrN = true ∧ live.folded 0 = false ∧ firstRefusal (ClearValues.ofNat (100 * 2 ^ 256 + 1000000 * 2 ^ 192)).checks = none := by
  decide +kernel
theorem witness_PmuMeasures :
    (on0 fun x => { x with meas := { x.meas with state := .settling } }).cells[(0 : Fin 128)].meas.state = .settling ∧
    (let d := on0 fun x => { x with meas := { x.meas with state := .converting } }
     roundRobin d.blocks[(0 : Fin 8)].lastServed (d.converting 0) = some 0) ∧
    (calAt .calibrating).converting 0 = [] ∧ (calAt .calibrating).calibrating 0 = true ∧
    (calAt .calibrating).blocks[(0 : Fin 8)].readbackDue = false ∧
    (let x := (on0 fun x => { x with path := { x.path with state := .parametric, swPmu := true }, pmu := { x.pmu with mode := .forceVoltage } }).cells[(0 : Fin 128)]
     x.pmuForces = true ∧ x.pmuStatus.clampActive = false ∧ x.pmu.kelvin = true) ∧ live.modes.clrN = true := by
  decide +kernel
theorem witness_DdsActs :
    MayWrite live h1 0 ∧ live.dieOff (blockRegion 0) = false ∧ live.blocks[(0 : Fin 8)].ddsState = .stopped ∧
    live.blocks[(0 : Fin 8)].ddsNext = none ∧ (onJ fun x => { x with ddsNext := some .running }).blocks[(0 : Fin 8)].ddsNext = some .running ∧
    (onJ fun x => { x with ddsState := .frozen }).blocks[(0 : Fin 8)].ddsState = .frozen := by
  decide +kernel
/-- Cell 0's Sentinel changed. -/
def watched (f : Sentinel → Sentinel) : Device := on0 fun x => { x with sentinel := f x.sentinel }
theorem witness_SentinelsWatch :
    live.dieOff 0 = false ∧
    (let d := watched fun x => { x with cfg := { x.cfg with cls := .monitor }, powered := true }
     d.monAwake (.cell 0) = true ∧ (watched fun x => { x with cfg := { x.cfg with cls := .monitor } }).monAwake (.cell 0) = false) ∧
    (let d := watched fun x => { x with cfg := { x.cfg with cls := .monitor, filter := 0 }, powered := true, output := .clear }
     (d.mon (.cell 0)).powered = true ∧ (d.mon (.cell 0)).monitors = true ∧ d.monOn (.cell 0) = true ∧ d.tripPath (.cell 0) = false ∧
     ((d.mon (.cell 0)).see (.cell 0) 7600000).sample.output = .alarm) ∧
    (let d := watched fun x => { x with cfg := { x.cfg with cls := .monitor, filter := 0 }, powered := true, output := .alarm }
     ((d.mon (.cell 0)).see (.cell 0) 0).sample.output = .clear) ∧
    (let d := watched fun x => { x with cfg := { x.cfg with cls := .protection } }
     d.tripPath (.cell 0) = true ∧ (d.mon (.cell 0)).tripped = false ∧ (d.mon (.cell 0)).alarm = none) ∧
    (let d := watched fun x => { x with cfg := { x.cfg with cls := .protection, autoRelease := true }, tripped := true, cause := .unsettled
                                        aboveLow := some true, aboveHigh := some false }
     (d.mon (.cell 0)).tripped = true ∧ ((d.mon (.cell 0)).see (.cell 0) 7600000).alarm = some true ∧
     ((d.mon (.cell 0)).see (.cell 0) 0).alarm = some false ∧ (d.mon (.cell 0)).alarm = some false) ∧
    (let d := onA fun x => { x with rails := x.rails.map fun s => { s with cfg := { s.cfg with cls := .both, autoRelease := true }
                                                                           aboveLow := some true, aboveHigh := some true } }
     d.tripPath (.rail 0 3) = true ∧ d.monOn (.rail 0 3) = true ∧ (d.mon (.rail 0 3)).alarm = some true) ∧
    (let d := onA fun x => { x with rails := x.rails.map fun s => { s with cfg := { s.cfg with cls := .both, autoRelease := true }
                                                                           aboveLow := some true, aboveHigh := some false
                                                                           tripped := true, cause := .alarm } }
     (d.mon (.rail 0 3)).tripped = true ∧ (d.mon (.rail 0 3)).cause = .alarm ∧ (d.mon (.rail 0 3)).cfg.autoRelease = true ∧
     (d.mon (.rail 0 3)).alarm = some false ∧ (d.onMon (.rail 0 3) fun s => { s with tripped := false }).regions[(0 : Fin 2)].railTripped = true) := by
  decide +kernel
theorem witness_SentinelWritesAct :
    MayWrite live h1 0 ∧ live.dieOff (monRegion (.cell 0)) = false ∧
    (let x := ((watched fun x => { x with aboveLow := some true, aboveHigh := some false }).mon (.cell 0))
     x.alarm = some false ∧ x.cause ≠ .readbackFault) ∧
    (let k := (live.mon (.cell 0)).cfg.put 9 1000000
     (sentValue (.cell 0) 9 1000000 k).1 = false ∧ 1000 * k.hyst + monStep (.cell 0) ≤ k.high - k.low) ∧
    (let d := watched fun x => { x with cfg := { x.cfg with cls := .protection } }
     d.modes.clocks = true ∧ d.dieOff (blockRegion 0) = false ∧
     ((d.readbackList 0).find? fun q => decide (d.blocks[(0 : Fin 8)].readbackNext ≤ q.1)).or (d.readbackList 0).head? = some (0, .cell 0, false) ∧
     d.converting 0 = [] ∧ (d.onBlock 0 fun x => { x with readbackDue := true }).blocks[(0 : Fin 8)].readbackDue = true ∧
     (d.onCell 1 fun x => { x with meas := { x.meas with state := .converting } }).converting 0 ≠ []) := by
  decide +kernel
/-- Region A's DRAM in service on channel A0 alone, with a run in a state at an instruction and writes that wait. -/
def dram (st : RunState) (w : BitVec 128) (l : List DramWrite) : Device :=
  (onA fun x => { x with run := { state := st }, program := [w]
                         dram := { x.dram with inService := 1, state := .active, ranks := 1, vectorBytes := 1024, capacity := 4096
                                               regP := { x.dram.regP with tokens := 1 }, regH := { x.dram.regH with tokens := 1 }
                                               writes := l } }).onDram 0 fun c => { c with state := .trained }
/-- The device with a transfer in session 1. -/
def moving (t : Transfer) (d : Device) : Device := d.onSession 0 fun x => { x with transfer := some t }
/-- A ReadBlock of 64 bytes of VectorSpaceA. -/
def reading : Transfer := { port := 0, seq := 0, secure := false, write := false, idx := 0x5000, off := 0, len := 64, credits := 1 }
theorem witness_DramSlotsServeRequests :
    (let d := dram .prefill (seqWord 1) []
     d.regions[dramRegion 0].mode ≠ .fold ∧ d.burstSlot 0 = .readP ∧ d.chanOpen 0 = true ∧ d.wantsP 0 ≠ [] ∧
     0 < d.regions[dramRegion 0].dram.regP.tokens) ∧
    (let d := moving reading (dram .idle 0 [])
     d.burstSlot 0 = .readH 0 ∧ d.readAt 0 = some (0, 0) ∧ d.link.sessions[(0 : Fin 16)].transfer = some reading) ∧
    (let w : DramWrite := { burst := 0, data := 0, mask := 1 }
     (dram .idle 0 [w]).burstSlot 0 = .writeH w) ∧ live.chanOpen 0 = false := by
  decide +kernel
theorem witness_BurstsReadBackAsWritten :
    (dram .idle 0 []).regions[(0 : Fin 2)].dram.place 5 = some (0, 5) ∧ (dram .idle 0 []).regions[(0 : Fin 2)].dram.epoch < 2 ^ 16 := by
  decide +kernel
/-- A training that works, or none. -/
def trained (ok : Bool) : TrainResult :=
  { levelled := true, passes := List.replicate 20 (if ok then 2 ^ 128 - 1 else 0), refs := List.replicate 20 (0, 255), temp := 400 }
theorem witness_DramTimesAndTrainingAct :
    (dram .idle 0 []).drams[(0 : Fin 4)].state ≠ .absent ∧ (0 : Fin 2).val < (dram .idle 0 []).regions[dramRegion 0].dram.ranks ∧
    (dram .idle 0 []).regions[dramRegion 0].dram.state = .active ∧ (dram .idle 0 []).refreshedIn 0 0 0 0 = 4 ∧
    (let d := dram .prefill (seqWord 1) []
     d.refreshedIn 0 0 0 0 = 3 ∧ d.refreshedIn 0 0 0 15 = 4 ∧ d.drams[(0 : Fin 4)].postponed[rankPlace 0 0] < 3 ∧
     3 ≤ (d.onDram 0 fun c => { c with postponed := Vector.replicate 4 3 }).drams[(0 : Fin 4)].postponed[rankPlace 0 0]) ∧
    (dram .idle 0 [{ burst := 0, data := 0, mask := 1 }]).queued 0 ≠ 0 ∧
    (let d := onA fun x => { x with dram := { x.dram with state := .serviceExit } }
     d.regions[(0 : Fin 2)].dram.state = .serviceExit ∧ d.regions[(0 : Fin 2)].dram.writes = [] ∧ d.regions[(0 : Fin 2)].tally.level = 0 ∧
     d.readsWait 0 = false) ∧
    MayWrite (dram .idle 0 []) h1 0 ∧ (dram .idle 0 []).shed.stage < 4 ∧
    (let d := (dram .idle 0 []).onDram 0 fun c => { c with state := .training, full := true }
     d.drams[(0 : Fin 4)].state = .training ∧ d.inService 0 = true ∧ d.drams[(0 : Fin 4)].full = true ∧ (d.drams[(0 : Fin 4)].outcome (trained false)).ok = false ∧
     (d.drams[(0 : Fin 4)].outcome (trained true)).ok = true) ∧
    (let d := (dram .idle 0 []).onDram 1 fun c => { c with state := .training }
     d.drams[(1 : Fin 4)].state = .training ∧ d.inService 1 = false ∧ d.regions[dramRegion 1].mode = .ready) := by
  decide +kernel
/-- A shadow of 4 800 MT/s, CL 40, CWL 38, and every timing 1. -/
def shadow : Nat := 0x000000010000000100000001000000010000000100000001000000010000000100000001000000010000000100000001000000010000000100000001262812C0
theorem witness_DramWritesAndFencesAct :
    MayWrite (dram .idle 0 []) h1 0 ∧ (dram .idle 0 []).regions[(0 : Fin 2)].dram.activeShadow = 0 ∧
    (dram .idle 0 []).regions[(0 : Fin 2)].busyMode = false ∧ (dram .idle 0 []).shed.stage < 4 ∧
    firstRefusal ((dram .idle 0 []).regions[(0 : Fin 2)].dram.configChecks 7 2) = none ∧
    firstRefusal ((dram .idle 0 []).regions[(0 : Fin 2)].dram.configChecks 0xB 1023) = none ∧
    firstRefusal ((dram .idle 0 []).regions[(0 : Fin 2)].dram.regulatorChecks 1 700) = none ∧
    (onA fun x => { x with mode := .configure }).regions[(0 : Fin 2)].mode = .configure ∧
    (let d := onA fun x => { x with dram := { x.dram with shadowSelect := 1, inService := 3 } }
     d.regions[(0 : Fin 2)].dram.shadowSelect ≠ d.regions[(0 : Fin 2)].dram.activeShadow ∧ d.bothWork 0 1 (trained true) (trained true) = true ∧
     d.bothWork 0 1 (trained true) (trained false) = false) ∧
    (let f : Fence := { number := 1, regions := 3, waitA := 0, waitB := 0 }
     ({ live with fences := [f] } : Device).fences = [f] ∧ ({ live with fences := [f] } : Device).fenceBlocked f = false) := by
  decide +kernel
theorem witness_shadow (h : Config.jedecLatency 4800 40 38 = true) : shadowBad shadow 6400 = false := by
  have e : (decide (4800 ∈ dataRates), field shadow 0 16, field shadow 16 8, field shadow 24 8,
      (List.range 15).any fun i => decide (field shadow (32 + 32 * i) 32 = 0)) = (true, 4800, 40, 38, false) := by decide +kernel
  simp only [Prod.mk.injEq] at e
  simp only [shadowBad, e.2.1, e.2.2.1, e.2.2.2.1, e.2.2.2.2, h]
  decide +kernel
/-- Channel 0 of Waggle changed. -/
def chan (f : WChan → WChan) : Device := live.onChan 0 f
theorem witness_SourceEventsBecomeFirings :
    live.modes.clocks = true ∧ live.waggle.chans[(0 : Fin 64)].state = .disabled ∧
    (∀ st ∈ [WState.suspended, .enabled], (chan fun x => { x with state := st }).waggle.chans[(0 : Fin 64)].closing = false) ∧
    (chan fun x => { x with lastEvent := some 0 }).waggle.chans[(0 : Fin 64)].lastEvent = some live.fclk ∧
    ((live.gateLevel 0).xor false) = true ∧ ((live.gateLevel 1).xor false) = false ∧
    (∃ l, (chan fun x => { x with lastUnlimited := some 0 }).waggle.chans[(0 : Fin 64)].lastUnlimited = some l ∧
      live.fclk < l + live.waggle.chans[(0 : Fin 64)].minInterval) ∧
    (∀ r : RegionIx, live.regions[r].tally.unfreezeDue = false) ∧ (∀ j : Fin 64, live.waggle.chans[j].closing = false) ∧
    (chan fun x => { x with fires := 1 }).waggle.chans[(0 : Fin 64)].fires = 0 + 1 ∧
    (let d := chan fun x => { x with undecided := true }
     (∀ j : Fin 64, d.waggle.chans[j].undecided = true ↔ j = 0) ∧ ∀ j : Fin 64, d.waggle.chans[j].source ≠ 0x40) :=
  ⟨by decide, by decide, by decide, by decide, by decide, by decide, ⟨0, rfl, by decide⟩, by decide, by decide, by decide, by decide, by decide⟩
/-- An offer of channel 0 to a task input. -/
def offer (c : Nat) : Offer := { chan := 0, consumer := c, due := 4, time := 0, firings := 1 }
theorem witness_WaggleCommandsAndOffersAct :
    MayWrite live h1 0 ∧ live.waggle.chans[(0 : Fin 64)].guarded = false ∧ live.waggle.chans[(0 : Fin 64)].state = .disabled ∧
    live.refersOff 0 = false ∧ live.chainBad 0 = false ∧
    (let d := chan fun x => { x with state := .suspended }
     d.waggle.chans[(0 : Fin 64)].state = .suspended ∧ d.refersOff 0 = false ∧ d.refersChecking 0 = false) ∧
    (({ live with waggle := { live.waggle with offers := [offer 0x28] } } : Device).awaitArrival 0x28).nextArrival 0x28 = some 4 ∧
    (let d := live.onEvio 3 fun x => { x with pulse := true, pulseEnd := 1 }
     d.waggle.evio[(3 : Fin 8)].pulse = true ∧ d.fclk < d.waggle.evio[(3 : Fin 8)].pulseEnd) ∧
    live.waggle.evio[(3 : Fin 8)].pulse = false ∧
    (let d := chan fun x => { x with state := .enabled }
     d.waggle.chans[(0 : Fin 64)].state = .enabled ∧ d.waggle.chans[(0 : Fin 64)].guarded = false) ∧
    live.waggle.evio[(7 : Fin 8)].level ≠ true ∧ live.waggle.evio[(7 : Fin 8)].config.getLsbD 0 = false ∧
    (moded .off).regions[(0 : Fin 2)].mode = .off ∧ live.consumerBusy 0x31 0 = false ∧ live.consumerBusy 0x28 0 = true := by
  decide +kernel
theorem witness_EventBalanceIsKept :
    (∀ k : Fin 64, live.waggle.chans[k].fired = live.waggle.chans[k].delivered + live.waggle.chans[k].merged + live.waggle.chans[k].overrun +
        (live.waggle.offers.filter fun o => o.chan = k).length ∧
      (live.waggle.chans[k].state = .disabled → (live.waggle.offers.filter fun o => o.chan = k).length = 0 ∧
        live.waggle.chans[k].undecided = false)) ∧
    ∃ t, exec (.enable h1 0) (waiting live) = .next t := ⟨by decide +kernel, _, rfl⟩
theorem witness_secure_reclaim :
    let d := { live with sec := { live.sec with life := .sealed } }
    let d := d.onSession 0 fun x => { x with secure := true }
    MayWrite d { h1 with secure := true } 0 ∧ d.sec.life = .sealed ∧ d.isSecure 0 { h1 with secure := true } = true := by
  decide +kernel
/-- A routine. -/
def routine : Request := { routine := 5, args := [1, 2, 3, 4], scope := .chip }
/-- A microword of an opcode. -/
def microWord (op : Nat) : BitVec 128 := BitVec.ofNat 128 (op * 2 ^ 114)
/-- The part with context 0 armed with bank 0, which overrides the routine by its first word, at urgency 1. -/
def patched (f : Context → Context) (w : BitVec 128) : Device :=
  let d := live.onCtx 0 fun c => f { c with armed := 1 }
  { d with ryu := { d.ryu with bank0 := { loaded := true, overrides := [(5, 0x6000)], words := [w] } } }
/-- Context 0 runs a routine that stands at the first word of bank 0. -/
def micro (st : CtxState) (w : BitVec 128) : Device :=
  patched (fun c => { c with state := st, running := some routine, pc := 0x2000 }) w
theorem witness_RoutinesEnter :
    (let d := patched (fun c => { c with queue := [routine] }) 0
     d.modes.clocks = true ∧ d.ryu.ctxs[(0 : Fin 4)].halted = false ∧ d.ryu.ctxs[(0 : Fin 4)].running = none ∧
     d.nextRequest 0 = some routine ∧ routine.entered = false) ∧
    (let q := { routine with entered := true, restarts := 7 }
     (patched (fun c => { c with queue := [q] }) 0).nextRequest 0 = some q ∧ q.restarts < 8) ∧
    (micro .running 0).ryu.ctxs[(0 : Fin 4)].running = some routine := by
  decide +kernel
theorem witness_MicrowordsComputeAndSteer :
    (∀ op ∈ [0x00, 0x01, 0x02, 0x03, 0x04, 0x05, 0x06, 0x07, 0x08, 0x09, 0x0A, 0x0B, 0x0C, 0x0D, 0x0E, 0x10, 0x18, 0x19, 0x1A, 0x1B],
      mwReserved (microWord op) = false ∧ mwOp (microWord op) = op ∧ (micro .running (microWord op)).controlWord 0x2000 = some (microWord op)) ∧
    Issues (micro .running (microWord 0x18)) 0 0 0x18 routine (microWord 0x18) ∧
    Issues (micro .committed (microWord 0x1B)) 0 0 0x1B routine (microWord 0x1B) := by
  decide +kernel
/-- WROBJ of r0 to EntryIndex of region A. -/
def storeWord : BitVec 128 := BitVec.ofNat 128 (0x0B * 2 ^ 114 + 0x3010 * 2 ^ 48 + 2 * 2 ^ 40)
theorem witness_MicrowordsReachObjects :
    Issues (micro .running storeWord) 0 0 0x0B routine storeWord ∧
    (∃ e, ((micro .running storeWord).issuing 0 0 storeWord).entryAt 0x3010 2 = some e ∧ e.len ≤ 8) ∧
    ((micro .running storeWord).issuing 0 0 storeWord).objectOff 0x3010 2 = false ∧ ((micro .running storeWord).issuing 0 0 storeWord).entryAt 0x0FFF 2 = none ∧
    (∃ f, ((micro .running storeWord).issuing 0 0 storeWord).specAt 1 true 0x3010 2 0 = some f ∧ firstRefusal f.value = none) ∧
    (∃ f, ((micro .running storeWord).issuing 0 0 storeWord).specAt 1 true 0x3010 2 16384 = some f ∧ firstRefusal f.value ≠ none) :=
  ⟨by decide +kernel, ⟨_, rfl, by decide⟩, by decide, by decide, ⟨_, rfl, by decide⟩, ⟨_, rfl, by decide⟩⟩
theorem witness_ErrorsRestartOrRepeat :
    Issues (micro .running (microWord 0)) 0 0 0 routine (microWord 0) ∧
    (micro .running (microWord 0)).nextTurn = some (0, 0) ∧ (micro .running (microWord 0)).preempted 1 = false ∧
    (let d := (micro .running (microWord 0)).onCtx 0 fun c => { c with queue := [{ routine with routine := 6 }] }
     let d := { d with ryu := { d.ryu with bank0 := { d.ryu.bank0 with overrides := [(5, 0x2000), (6, 0x6000)] } } }
     d.modes.clocks = true ∧ d.ryu.ctxs[(0 : Fin 4)].halted = false ∧ d.preempted 0 = true) ∧ (micro .running 0).ryu.ctxs[(0 : Fin 4)].restarts < 8 ∧
    ((micro .running 0).onCtx 0 fun c => { c with restarts := 8 }).ryu.ctxs[(0 : Fin 4)].restarts = 8 ∧
    (micro .committed 0).ryu.ctxs[(0 : Fin 4)].repeats < 8 := by
  decide +kernel
theorem witness_PatchesDebugAndTapAct :
    (let d := ((moded .configure).onCtx 1 fun c => c)
     let d := { d with ryu := { d.ryu with contextSel := 2, bank0 := { d.ryu.bank0 with loaded := true, contexts := 2 } } }
     MayWrite d h1 0 ∧ d.selectedCtxs = [1] ∧ d.ryu.ctxs[(1 : Fin 4)].occupied = false ∧ (d.ctxClosed 1).1 = false ∧
     (d.ryu.bank 0).contexts.testBit 1 = true ∧ (d.ryu.bank 0).loaded = true ∧ d.sec.life ≠ .retired) ∧
    live.tapOn = true ∧ live.controlPermitted = true ∧ live.haltScope 0 = true ∧ live.boundaryMode = true ∧
    (∀ n, live.peekPermitted (.controlStore n) = true) ∧
    (let d := { live with sec := { live.sec with life := .sealed } }
     d.controlPermitted = false ∧ d.peekPermitted (.keeperSram 0) = false) ∧ (moded .run).boundaryMode = false ∧
    (let d := (micro .running (microWord 0)).onCtx 0 fun c => { c with halted := true }
     d.ryu.ctxs[(0 : Fin 4)].halted = true ∧ d.ryu.ctxs[(0 : Fin 4)].running = some routine ∧
     (d.loadTap .dbgctl).controlWord d.ryu.ctxs[(0 : Fin 4)].pc = some (microWord 0)) := by
  refine ⟨by decide, by decide, by decide, by decide, by decide, fun _ => rfl, by decide, by decide, by decide +kernel⟩
theorem witness_SessionsAndNotifiesAct :
    live.linkUp 0 = true ∧ live.answering = true ∧ live.nodeOk 262143 = true ∧ live.freeSession = some 2 ∧ arrives h1 true = true ∧
    h1.secure = false ∧ arrives { h1 with dst := .broadcast } true = true ∧ arrives { h1 with fcsOk := false } true = false ∧
    ({ live with link := { live.link with sessions := Vector.replicate 16 { attached := true } } } : Device).freeSession = none ∧
    Heard live h2 1 ∧ live.link.sessions[(1 : Fin 16)].attached = true ∧ live.frameOk h2 = some 1 := by
  decide +kernel
theorem witness_EndOfASessionVacatesItsDeal :
    live.isDealer 0 = true ∧ live.isDealer 1 = false ∧ ({ live with link := { live.link with window := some [] } } : Device).link.window = some [] := by
  decide +kernel
/-- A claim of a session. -/
def claim (i prio : Nat) : Claim := { session := i, priority := prio, hostId := 5, secure := false, port := 0, seq := 0 }
/-- The part without a Dealer. -/
def vacant : Device := { live with link := { live.link with dealer := {}, window := some [claim 2 7, claim 1 7], readyOwed := true } }
theorem witness_TheDealPassesToTheHighestClaim :
    Heard vacant h1 0 ∧ vacant.sec.life ≠ .blank ∧ vacant.link.dealer.session = 0 ∧ live.isDealer 0 = true ∧
    vacant.link.window = some [claim 2 7, claim 1 7] ∧ bestClaim [claim 2 7, claim 1 7] = some (claim 1 7) ∧
    live.link.sessions[(1 : Fin 16)].attached = true ∧ live.link.dealer.session ≠ 0 ∧ vacant.link.readyOwed = true ∧
    vacant.regions[(0 : Fin 2)].mode ≠ .run ∧ vacant.shed.stage = 0 ∧ vacant.modes.status ≠ .inProgress := by
  decide +kernel
/-- The part in a device mode without clocks. -/
def asleep (m : DevMode) : Device := { live with modes := { live.modes with mode := m, clocks := false } }
/-- The device with THK0 down. -/
def unlinked (d : Device) : Device := d.onPort 0 fun p => { p with link := 0 }
theorem witness_PortsAct :
    live.linkUp 0 = true ∧ (unlinked live).modes.porst = true ∧ (unlinked live).linkUp 0 = false ∧ (unlinked live).answering = true ∧
    (unlinked live).link.ports[(0 : Fin 2)].pllLocked = true ∧ (unlinked (asleep .standby)).answering = false ∧
    (asleep .standby).nodeOk 0 = true ∧ (asleep .dormant).powerState = .dormant ∧ (asleep .standby).powerState = .standby ∧
    (asleep .standby).shed.stage < 4 ∧ live.modes.coreDie = true ∧ MayWrite live h1 0 ∧
    live.linkUp plain.port = true ∧ Frame.accepted plain = false ∧
    (∀ t ∈ [1, 3, 4, 10],
      let f : Frame := { plain with bytes := [1, BitVec.ofNat 8 t, 0, 0, 0, 0, 0, 1, 0, 0, 0, 0, 0, 0, 0, 10] ++ List.replicate 30 0 }
      Frame.accepted f = true ∧ f.etherType = 0x88B5 ∧ Frame.type f = t ∧ Frame.length f = 10 ∧ Frame.arg f 4 2 = 0) ∧
    (data 4 262143).val ≤ 262143 := by
  decide +kernel
/-- With its clocks stopped by S4 a part in Factory is woken as from Standby (R374, R375, R386). -/
theorem test_factory_asleep : (asleep .factory).powerState = .standby := by decide +kernel
theorem witness_ClocksAndStartsAct :
    live.linkUp 1 = true ∧ live.answering = true ∧ live.ptp.enable.testBit (1 : Fin 2).val = true ∧ live.ptp.enable % 4 ≠ 0 ∧
    ({ live with ptp := { live.ptp with state := .slave } } : Device).ptp.state = .slave ∧ arrives h1 true = true ∧ MayWrite live h1 0 ∧ live.selectedBusy = false ∧
    live.sec.life ≠ .blank ∧ live.link.dealer.session ≠ 0 ∧ 5 % 2 ^ 48 = live.link.dealer.hostId ∧
    (let d := { live with sched := { live.sched with role := 2 } }
     MayWrite d h1 0 ∧ d.sched.role = 2) := by
  decide +kernel
/-- A WriteBlock of a program of one instruction. -/
def filling : Transfer := { port := 0, seq := 0, secure := false, write := true, idx := 0x5010, off := 0, len := 16, credits := 1 }
theorem witness_BlocksAreTransferred :
    Heard live h1 0 ∧ domainAt 0x5010 = some (.program 0) ∧ live.link.sessions[(0 : Fin 16)].transfer = none ∧
    firstRefusal (live.readChecks (.program 0) 0 262144) = none ∧
    firstRefusal (live.blockSpec (.program 0) false 0 16).access = none ∧ firstRefusal (live.blockSpec (.program 0) false 0 16).state = none ∧
    firstRefusal (live.blockSpec (.program 0) false 0 16).value = none ∧
    (moving filling live).link.sessions[(0 : Fin 16)].transfer = some filling ∧ filling.write = true ∧ filling.credits ≠ 0 ∧
    filling.done + ([0, 0] : List Byte).length ≤ filling.len ∧ (moving filling live).streamRefusal 0 (.program 0) = none ∧ filling.since < 63 ∧
    (live.frameBytes { reading with idx := 0x5010 }).isSome = true := by
  decide +kernel
/-- The part in a lifecycle state, its Dealer secure. -/
def alive (l : Life) (f : Security → Security) : Device :=
  { (live.onSession 0 fun x => { x with secure := true, challenge := some { hostNonce := 1, partNonce := 2, time := 0 } }) with
    sec := f { live.sec with life := l, lifeFuse := l } }
theorem witness_LifecycleActs :
    MayWrite live h1 0 ∧ live.sec.status ≠ .programming ∧ live.sec.life = .openLife ∧ live.sec.keyState = .none ∧ live.fuseMode = true ∧
    live.shed.stage = 0 ∧ (alive .openLife fun x => { x with keyState := .staged }).sec.keyState = .staged ∧
    (alive .openLife fun x => { x with sealing := some true }).sec.sealing = some true ∧
    (alive .sealed id).isSecure 0 { h1 with secure := true } = true := by
  decide +kernel
theorem witness_keyCheck (v : Nat) : ∃ x : Security, x.keyState = .staged ∧ x.staging = v ∧ x.keyCheck = keyCheckOf v :=
  ⟨{ keyState := .staged, staging := v, keyCheck := keyCheckOf v }, rfl, rfl, rfl⟩
theorem witness_AuthenticationAndLockoutAct :
    Heard (alive .sealed id) h1 0 ∧ (alive .sealed id).sec.life = .sealed ∧ (alive .sealed id).lockedOut = false ∧
    (alive .sealed id).link.sessions[(0 : Fin 16)].challenge = some { hostNonce := 1, partNonce := 2, time := 0 } ∧
    (alive .sealed id).now ≤ 0 + 100000000 ∧ MayWrite (alive .sealed id) { h1 with secure := true } 0 ∧
    (alive .sealed id).isSecure 0 { h1 with secure := true } = true ∧ (data 32 0).len = 32 ∧
    (alive .sealed fun x => { x with unlocked := true }).sec.unlocked = true := by
  decide +kernel
theorem witness_OnlyTheRightAnswerMakesSecure :
    ∃ t, exec (.answer h1 7) (waiting (alive .sealed id)) = .next t ∧ live.link.sessions[(0 : Fin 16)].secure = false := ⟨_, rfl, by decide⟩
theorem witness_ModeRequestsActOrAreRefused :
    MayWrite live h1 0 ∧ live.modes.regions % 4 ≠ 0 ∧
    (∀ v ∈ [1, 3, 4, 5, 6], firstRefusal (live.requestChecks v) = none) ∧
    (let d := (moded .configure).onRegion 1 fun x => { x with mode := .configure }
     firstRefusal (d.requestChecks 2) = none) ∧
    (let d := (moded .fold).onRegion 1 fun x => { x with mode := .fold }
     firstRefusal (d.requestChecks 8) = none) ∧
    (let d := (onA fun x => { x with resumeRequired := true }).onRegion 1 fun x => { x with resumeRequired := true }
     firstRefusal (d.requestChecks 7) = none) ∧
    ({ live with modes := { live.modes with status := .inProgress } } : Device).modes.status = .inProgress ∧
    live.modes.regions.testBit (1 : Fin 2).val = true ∧ RMode.ready ∉ [RMode.configure] := by
  decide +kernel
theorem witness_NamedRegionsReachTheirMode :
    MayWrite live h1 0 ∧ firstRefusal (live.requestChecks 3) = none ∧
    (let d := (moded .configure).onRegion 1 fun x => { x with mode := .configure }
     MayWrite d h1 0 ∧ firstRefusal (d.requestChecks 2) = none ∧ d.modes.regions % 4 ≠ 0) := by
  decide +kernel
theorem witness_ResetsAct :
    Device.reset.modes.vkeep = true ∧ Device.reset.modes.porst = false ∧ live.modes.porst = true ∧ live.modes.coreDie = true ∧
    live.modes.clocks = true ∧ ({ live with modes := { live.modes with vkeep := false } } : Device).modes.vkeep = false := by
  decide +kernel
theorem witness_PinsPllsAndReportsAct :
    live.modes.clocks = true ∧ live.modes.coreDie = true ∧ (dram .idle 0 []).drams[(0 : Fin 4)].state ≠ .absent ∧
    (let d := onA fun x => { x with mode := .configure, stale := { x.stale with state := .running } }
     d.regions[(0 : Fin 2)].stale.state = .running ∧ d.regions[(0 : Fin 2)].mode = .configure ∧ d.shed.stage = 0) := by
  decide +kernel
/-- The part at a stage of shedding with the causes of rails. -/
def shedding (n : Nat) (c : BitVec 12) : Device := { live with shed := { live.shed with stage := n, cause := c } }
theorem witness_SheddingActs :
    live.watched 0 = true ∧ live.watched 11 = true ∧ live.shed.stage = 0 ∧ (shedding 4 1).railLow = true ∧
    (shedding 4 1).shed.stage < (shedding 4 1).shed.maxStage ∧ (∀ n ∈ [1, 2, 3, 4, 5], (shedding n 0).railLow = false ∧ (shedding n 0).shed.stage = n) ∧
    MayWrite live h1 0 := by
  decide +kernel
theorem witness_CollectorCommandsAct :
    MayWrite live h1 0 ∧
    ((List.range (sourceCount (.cell 0))).any fun n =>
      (data 4 4).val.testBit n && isCondition (.cell 0) n && ((live.sources (.cell 0))[n]?.elim false (·.cause))) = false ∧
    live.dieOff (cellRegion 0) = false ∧ live.collectorOn (.cell 0) = true ∧ parityAbove (.cell 0) = some (.block 0, 4) ∧
    parityAbove .chip = none ∧
    (let d := { live with modes := { live.modes with factory := true }, chip := { live.chip with injSource := 0x6002, injActive := [(.cell 0, 2)] } }
     MayWrite d h1 0 ∧ d.modes.factory = true ∧ codeSource d.chip.injSource = some (.cell 0, 2) ∧ isCondition (.cell 0) 2 = true ∧
     d.chip.injActive = [(.cell 0, 2)]) ∧ isCondition (.cell 0) 0 = false := by
  decide +kernel
theorem witness_SourcesCountAndClear :
    (let x := (live.sources (.cell 0))[(2 : Nat)]?
     x.isSome = true ∧ ∀ y ∈ x, y.cycle ≠ some live.fclk) ∧ live.collectorOn (.cell 0) = true ∧ live.modes.clocks = true ∧
    (let d := live.raise (.cell 0) 0
     (d.sources (.cell 0))[(0 : Nat)]?.any fun x => decide (x.cycle = some d.fclk ∧ x.times.length = 1)) = true ∧
    (let s : Source := { threshold := 2 }
     { s with sticky := true, count := 1, times := [0] }.classifies = false) := by
  decide +kernel
theorem witness_TheLogIsWritten :
    (let e : LogEntry := { time := 0, disciplined := false, level := 1, source := 0x7642, data := 0 }
     let d := { live with logQueue := [e] }
     d.modes.vkeep = true ∧ d.logQueue = [e] ∧ d.logSkipped = 0 ∧ ({ d with logSkipped := 3 } : Device).logSkipped ≠ 0) ∧ MayWrite live h1 0 := by
  decide +kernel
/-- Two bits of one codeword of an entry are wrong: it reads with Level Damaged and counts; with one bit wrong it reads as it was. -/
theorem test_log_entry_damaged :
    (let e : LogEntry := { time := 0, disciplined := false, level := 1, source := 0x7642, data := 0 }
     let d := { live with log := ({} : Log).write e }
     let x := (d.strikeLog [⟨0, 3, 0⟩]).readLog 0 16
     (x.log.slots.map fun y => y.2.read) = [5 * 2 ^ 60] ∧ x.log.damaged = 1 ∧
     ((d.strikeLog [⟨0, 1, 0⟩]).log.slots.map fun y => y.2.read) = [e.word]) := by
  decide +kernel
/-! ### Commands that cannot come about -/

/-- A training that succeeded. -/
def training : TrainResult := trained true
/-- A channel with one rank. -/
def found : ChanFind :=
  { present := true, width := 0, density := 0, ranks := 1, supported := true, grade := 6400, timings := 0, train := training }
/-- A power-up in which all goes well. -/
def world : World :=
  { pllLocks := true, linkA := true, linkB := true, ch0 := found, ch1 := found, ch2 := found, ch3 := found, suspects := []
    dramHeld := false }
theorem wf_refuses_header_fields :
    h1.wf = true ∧ Instr.wf (.heartbeat { h1 with session := 2 ^ 16 }) = false ∧ Instr.wf (.heartbeat { h1 with seq := 2 ^ 32 }) = false ∧
    Instr.wf (.heartbeat { h1 with node := 2 ^ 18 }) = false ∧ Instr.wf (.heartbeat { h1 with credits := 2 ^ 16 }) = false := by decide
theorem wf_refuses_data :
    Instr.wf (.couplingWrite h1 (data 1 1)) = true ∧ Instr.wf (.couplingWrite h1 (data 1 256)) = false ∧
    Instr.wf (.couplingWrite h1 (data 1025 0)) = false := by decide
theorem wf_refuses_training :
    training.wf = true ∧ Instr.wf (.retrainComplete 0 { training with passes := [] }) = false ∧
    Instr.wf (.retrainComplete 0 { training with passes := List.replicate 20 (2 ^ 128) }) = false ∧
    Instr.wf (.retrainComplete 0 { training with refs := [] }) = false ∧
    Instr.wf (.retrainComplete 0 { training with refs := List.replicate 20 (1, 0) }) = false ∧
    Instr.wf (.retrainComplete 0 { training with refs := List.replicate 20 (0, 256) }) = false := by decide +kernel
theorem wf_refuses_channels :
    let with0 := fun c => Instr.wf (.porstNRelease false { world with ch0 := c })
    with0 found = true ∧ with0 { found with width := 2 } = false ∧ with0 { found with density := 3 } = false ∧
    with0 { found with ranks := 0 } = false ∧ with0 { found with ranks := 3 } = false ∧ with0 { found with timings := 2 ^ 512 } = false ∧
    with0 { found with train := { training with refs := [] } } = false := by decide +kernel
theorem wf_refuses_worlds :
    Instr.wf (.warmReset { world with suspects := [135] }) = true ∧ Instr.wf (.warmReset { world with suspects := [136] }) = false ∧
    Instr.wf (.warmReset { world with ch1 := { found with width := 2 } }) = false ∧
    Instr.wf (.shedRecovery { world with ch2 := { found with width := 2 } }) = false ∧
    Instr.wf (.wakeFrame 0 true 0 { world with ch3 := { found with width := 2 } }) = false ∧
    Instr.wf (.wakeFrame 0 true (2 ^ 18) world) = false := by decide +kernel
theorem wf_refuses_passes :
    let pass := fun m => Instr.wf (.calPassComplete 0 m)
    pass wholePass = true ∧ pass { wholePass with delays := [] } = false ∧ pass { wholePass with hits := [] } = false ∧
    pass { wholePass with hits := List.replicate 128 8191 } = false ∧ pass { wholePass with levels := [] } = false ∧
    pass { wholePass with tapErr := [] } = false := by decide +kernel
theorem wf_refuses_peeks :
    Instr.wf (.dbgpeek (.controlStore 0x3FFF)) = true ∧ Instr.wf (.dbgpeek (.controlStore 0x4000)) = false ∧
    Instr.wf (.dbgpeek (.comb 0 524288)) = false ∧ Instr.wf (.dbgpeek (.failFifo 0 16384)) = false ∧
    Instr.wf (.dbgpeek (.keeperSram 2048)) = false := by decide +kernel
theorem wf_refuses_reports :
    let phy := fun n => Instr.wf (.temperatureUpdate 400 400 400 [] (List.replicate n 400))
    let power := fun core energy volts amps => Instr.wf (.powerReportUpdate core 0 0 0 energy (List.replicate volts 0) (List.replicate amps 0))
    phy 4 = true ∧ phy 3 = false ∧ power 0 0 12 12 = true ∧ power (2 ^ 32) 0 12 12 = false ∧ power 0 (2 ^ 64) 12 12 = false ∧
    power 0 0 11 12 = false ∧ power 0 0 12 11 = false := by decide +kernel
theorem wf_refuses_words_of_the_world :
    Instr.wf (.adcConversionSlot 0 (2 ^ 18)) = false ∧ Instr.wf (.sentinelReadback 0 (2 ^ 18)) = false ∧
    Instr.wf (.backgroundVisit 0 0 0 0 (List.replicate 10 0) (List.replicate 128 2048)) = true ∧
    Instr.wf (.backgroundVisit 0 0 0 0 [] (List.replicate 128 2048)) = false ∧
    Instr.wf (.backgroundVisit 0 0 0 0 (List.replicate 10 0) (List.replicate 128 2047)) = false ∧
    Instr.wf (.refreshInterval 0 0 16) = false ∧
    Instr.wf (.frequencyChangeComplete 0 training training { training with refs := [] } training) = false ∧
    Instr.wf (.stalenessCheckDone 0 0 0 training training [136]) = false := by decide +kernel
theorem wf_refuses_requests :
    Instr.wf (.attach { h1 with node := 2 ^ 18 } 0 0) = false ∧ Instr.wf (.attach h1 (2 ^ 48) 0) = false ∧
    Instr.wf (.attach { h1 with tag := some (2 ^ 16) } 0 0) = false ∧ Instr.wf (.frameDiscarded plain) = true ∧
    Instr.wf (.frameDiscarded { plain with bytes := List.replicate 9199 0 }) = false ∧
    Instr.wf (.frameDiscarded { plain with tags := [2 ^ 16] }) = false ∧ Instr.wf (.frameDiscarded { plain with etherType := 2 ^ 16 }) = false ∧
    Instr.wf (.write h1 (2 ^ 16) 0 (data 1 0)) = false ∧ Instr.wf (.write h1 0 256 (data 1 0)) = false ∧
    Instr.wf (.readblock h1 0 0 (2 ^ 64) 0) = false ∧ Instr.wf (.writeblock h1 0 0 0 (2 ^ 64)) = false ∧
    Instr.wf (.blockData h1 0 (List.replicate 8193 0)) = false ∧ Instr.wf (.claim h1 256 0) = false ∧
    Instr.wf (.yield h1 (2 ^ 16)) = false ∧ Instr.wf (.challenge h1 (2 ^ 128)) = false ∧ Instr.wf (.answer h1 (2 ^ 256)) = false ∧
    Instr.wf (.ptpMessage 0 256 0 0 0 true) = false ∧ Instr.wf (.levelsWrite h1 0 256 (data 4 0)) = false := by decide +kernel


/-! ### The examples of the rules -/

/-- The device after one step. -/
def after (c : Instr) (d : Device) : Device :=
  match step { pending := [c], dev := d } with
  | .next t => t.dev
  | _ => Device.reset
/-- The first reply the device has sent. -/
def answer (d : Device) : Option Reply := d.link.sent.head?.map (·.reply)
/-- A subindex as it reads. -/
def reads (d : Device) (idx sub : Nat) : Option Int := (d.entryAt idx sub).map (·.val)
/-- The device at a Keeper time, ns, with the clock disciplined. -/
def clocked (ns : Nat) (d : Device) : Device := { d with keeper2 := 2 * ns, ptp := { d.ptp with state := .slave } }

-- R392: source 2 of cell 89; VectorIntegrity of region B, of the example of ch. 18.
theorem test_source_codes : sourceCode (.cell 89) 2 = 0x7642 ∧ sourceCode (.region 1) 4 = 0x2044 := by decide
-- The examples of ch. 10: maps, tag, fold, rates and areas.
def dram64 : Dram := { populated := 3, inService := 3, width := 0, ranks := 2, density := 2, dataRate := 6400, capacity := 137438953472 }
theorem test_dram_map : dram64.place 524320 = some (0, 262160) ∧ dram64.location 131080 = { rank := 0, bank := 0, row := 64, col := 8 } ∧
    (let x := ({ dram64 with addressMap := 2 } : Dram).location 131080
     x.rank = 0 ∧ x.bank = 8 ∧ x.row = 64) ∧ frameTag 0 262160 3 = 0x000300040010 ∧
    dramFold 0 262160 0 = 2097280 := by decide
theorem test_dram_areas : 2 * dram64.channelBytes = 137438953472 ∧ dram64.defaultLayout.vectorBytes = 68585259008 ∧
    dram64.defaultLayout.failBytes = 68585259008 ∧ dram64.defaultLayout.vectorLimit = 2143289344 := by decide
theorem test_port_rates : dram64.rate dram64.regP = 1120 ∧ dram64.rate dram64.regT = 120 ∧ dram64.rate dram64.regH = 88 ∧
    dram64.rate dram64.regS = 16 ∧ ({ dram64 with dataRate := 4800 } : Dram).rate dram64.regP = 840 ∧
    ({ dram64 with inService := 1 } : Dram).rate dram64.regP = 560 := by decide
-- The example of ch. 5: slot 0 of region A, and the capacity of a fail area of 192 MiB.
theorem test_fail_slot :
    (let q : FailRecord := { record with mask := 2 ^ 40, address := 0x100040, index := 1, cycle := 0x100040 }
     bytesOf 24 ({ data := BitVec.ofNat 192 q.bits, gap := 0, first := true } : WriteRecord).bits) =
      [0x40, 0, 0x10, 0, 0, 0, 1, 0, 0x40, 0, 0x10, 0, 0, 0, 0, 8, 0, 0, 0, 0, 0, 1, 0, 0] ∧
    ({ failBytes := 201326592, inService := 3 } : Dram).areaCapacity = 8388608 := by decide +kernel
-- The example of ch. 6: Mean and StdDev from the accumulators.
theorem test_stamper_statistics :
    let t : TmuResult := { count := 2096931, sum := -1249770876, sumSquares := 793310935920 }
    t.mean = -9536 ∧ t.stdDev = 2432 := by decide +kernel
-- The examples of ch. 8: currents in pA, rounded half to even.
theorem test_pmu_readings : Machine.reading true 4 (64 * 163849) 64 = 12503433228 ∧ Machine.reading true 2 (131072 + 44424) 1 = 84732056 ∧
    Machine.reading true 2 (131072 + 44408) 1 = 84701538 ∧ Machine.reading true 2 (131072 + 44441) 1 = 84764481 := by decide +kernel
-- The examples of ch. 4 and 9: DAC codes of VIH and of the thresholds.
theorem test_dac_codes : levelCode 3300000 = 41942 ∧ monCode (.cell 20) 3800000 = 644 ∧ monCode (.cell 20) (-300000) = 225 := by decide

/-! The timing sets of the examples of ch. 2. -/

/-- A set with one entry in so many cells from a position, the others Unused. -/
def setOf (p : Nat) (l : List (Nat × Nat × CellEntry)) : TimingSet :=
  { period := p
    cells := Vector.ofFn fun i : Fin 64 => ((l.find? fun x => decide (x.1 ≤ i.val ∧ i.val ≤ x.2.1)).map (·.2.2)).getD {} }
/-- Lanes that compare, inline, with two windows. -/
def lane (s0 w0 s1 w1 : Nat) : CellEntry := { format := 0x125, d0 := 256, d1 := 768, d2 := 1280, d3 := 1792, s0, s1, w0, w1 }
/-- The set of Tessel-4 with the windows of its lanes. -/
def tessel (l : CellEntry) : TimingSet :=
  setOf 2048 [(0, 7, { format := 5, d0 := 256, d1 := 768, d2 := 1280, d3 := 1792 }), (8, 15, l),
    (16, 16, { format := 6, d0 := 0, d1 := 16384, d2 := 32768 }), (17, 17, { format := 6, d0 := 16384, d1 := 16384, d2 := 32768 }),
    (18, 23, { format := 0, d0 := 0, d1 := 1024, s0 := 1536 })]
theorem test_set_status_lanes : (tessel (lane 1792 2176 2304 2688)).validate false = { state := 1, error := 0, firstCell := 0xFF } := by
  decide +kernel
theorem test_set_status_slow_grade : (tessel (lane 1792 2176 2304 2688)).validate true = { state := 2, error := 0xB, firstCell := 0 } := by
  decide +kernel
theorem test_set_status_overlap : (tessel (lane 256 2176 2304 2688)).validate false = { state := 2, error := 8, firstCell := 8 } := by
  decide +kernel
theorem test_set_status_ph80 :
    (setOf 16384 [(0, 31, { format := 0, d0 := 1024, d1 := 9216, s0 := 12288 }),
      (32, 47, { format := 0x10, d0 := 1024, d1 := 9216, s0 := 17408, w0 := 19456 })]).validate false =
      { state := 1, error := 0, firstCell := 0xFF } := by decide +kernel
-- Set 0 may not be followed by the set with early windows, and that one may follow itself.
theorem test_pairs_of_sets : pairOk (lane 1792 2176 2304 2688) (lane 256 640 768 1152) 2048 2048 2048 = false := by decide +kernel

/-! Steps of the examples of ch. 14 to 16, 11, 13 and 9. -/

/-- Cell 70 as the example of ch. 14 has it, its region in a mode. -/
def cell70 (m : RMode) : Device :=
  (live.onCell 70 fun x => { x with levels := { x.levels with voh := 1800000, vol := 800000, hyst := 20 } }).onRegion 1 fun x =>
    { x with mode := m }
theorem test_write_of_observer : answer (after (.write h2 0x4461 4 (data 4 2000000)) (cell70 .calibrate)) =
    some (.error { code := 4, reason := 1 } 0x4461 4) := by decide +kernel
theorem test_write_in_calibrate : answer (after (.write h1 0x4461 4 (data 4 2000000)) (cell70 .calibrate)) =
    some (.error { code := 5, reason := 1 } 0x4461 4) := by decide +kernel
theorem test_write_of_voh :
    let d := after (.write h1 0x4461 4 (data 4 2000000)) (cell70 .ready)
    answer d = some (.ok []) ∧ reads d 0x4461 4 = some 2000000 ∧ reads d 0x4461 5 = some 800000 := by decide +kernel
theorem test_write_of_reserved_code : answer (after (.couplingWrite h1 (data 1 2)) live) = some (.error { code := 7, reason := 2 } 0x2010 3) := by
  decide +kernel
theorem test_write_of_wrong_length : answer (after (.couplingWrite h1 (data 2 1)) live) = some (.error { code := 7, reason := 3 } 0x2010 3) := by
  decide +kernel

/-- Cell 89 in Parametric, whose short circuits Fold it at the third event in 10 s; two have come. -/
def shorting : Device :=
  live.onCell 89 fun x =>
    { x with path := { x.path with state := .parametric, request := .parametric, swPmu := true }, pmu := { x.pmu with mode := .forceVoltage }
             faults := x.faults.set 2 { sticky := true, count := 2, times := [4200000000, 1000000000], threshold := 3, windowMs := 10000
                                        reaction := 2 } }
theorem test_third_event_folds_the_cell :
    let d := after (.pmuShort 89) (clocked 7900000000 shorting)
    d.cells[(89 : Fin 128)].path.state = .isolated ∧ reads d 0x4590 4 = some 1 ∧ reads d 0x459D 2 = some 4 ∧
    d.logQueue.map (fun e => (e.level, e.source, e.data)) = [(2, 0x7642, 3 * 2 ^ 36), (3, 0x7642, 3 * 2 ^ 36)] := by decide +kernel
theorem test_third_event_too_late :
    (after (.pmuShort 89) (clocked 11000000001 shorting)).cells[(89 : Fin 128)].path.state = .parametric := by decide +kernel
theorem test_clear_while_the_cause_is_there :
    answer (after (.collectorClear h1 (.cell 89) (data 4 4)) (live.onCell 89 fun x =>
      { x with faults := x.faults.set 2 { sticky := true, cause := true, count := 1 } })) =
      some (.error { code := 5, reason := 3 } 0x459D 4) := by decide +kernel

/-- Channel 12 has fired 6 FCLK cycles ago. -/
def fired12 : Device :=
  { live.onChan 12 (fun x => { x with state := .enabled, consumers := 0x0001000000200000, lastUnlimited := some 0 }) with time := 6 * 8192 }
theorem test_rate_limit :
    let d := (tick (after (.fire h1 12) fired12)).endCycle
    reads d 0x230C 0xA = some 1 ∧ reads d 0x230C 0xB = some 2 ∧ reads d 0x230C 0xE = some 2 ∧ reads d 0x230C 0xF = some 2 ∧
    d.waggle.offers = [] := by decide +kernel
/-- Offers of channels 20 and 12 to the measure input of block 5 that arrive together. -/
def meeting : Device :=
  { live with waggle := { live.waggle with offers :=
      [{ offer 0x15 with chan := 20 }, { offer 0x15 with chan := 12 }] } }
theorem test_offers_merge :
    let d := after (.offerArrival 0x15) meeting
    reads d 0x2314 0xD = some 1 ∧ reads d 0x230C 0xC = some 1 ∧ reads d 0x2340 0x16 = some (1 + 12 * 2 ^ 64) := by decide +kernel

/-- The bytes of a frame of session 1 at its turn: a Write of 7 to EntryIndex of region A (R320, R321). -/
def writeFrame : Frame :=
  { plain with bytes := [1, 4, 0, 0, 0, 0, 0, 1, 0, 0, 0, 0, 0, 0, 0, 10, 0x10, 0x30, 2, 0, 2, 0, 0, 0, 7, 0] ++ List.replicate 20 0 }
theorem test_frame_of_a_write :
    let d := after (.frameDiscarded writeFrame) live
    d.regions[(0 : Fin 2)].entry = 7 ∧ d.link.ports[(0 : Fin 2)].discarded = 0 ∧
    d.link.sent.map (fun f => (f.type, f.header, f.payload)) = [(4, [1, 4, 0, 0, 0, 1, 0, 1, 0, 0, 0, 0, 0, 0, 0, 0], [])] := by decide +kernel
theorem test_frames_discarded :
    (∀ f ∈ [{ writeFrame with fcsOk := false }, { writeFrame with dst := .broadcast }, { writeFrame with tags := [0, 0] },
        { writeFrame with etherType := 0x800 }, { writeFrame with bytes := writeFrame.bytes.take 20 },
        { writeFrame with bytes := writeFrame.bytes.set 0 2 }, { writeFrame with bytes := writeFrame.bytes.set 1 0xF }],
      (after (.frameDiscarded f) live).link.ports[(0 : Fin 2)].discarded = 1) := by decide +kernel

/-- Two claims of one priority. -/
def rivals : List Claim := [{ claim 1 0x40 with hostId := 0x02F1A0112233 }, { claim 2 0x40 with hostId := 0x02F1A0445566 }]
theorem test_election_by_host_id :
    let d := after .electionWindowClose { vacant with link := { vacant.link with window := some rivals } }
    d.link.dealer.session = 2 ∧ d.link.dealer.hostId = 0x02F1A0445566 ∧ d.link.dealer.epoch = vacant.link.dealer.epoch + 1 := by
  decide +kernel
/-- Region A Armed under Source PtpDrivesSyncBus, with a Deskew of 5 571 fu. -/
def armedForSync : Device :=
  { (onA fun x => { x with mode := .run, run := { state := .armed, scheduled := true }, program := [0] }) with
    sched := { regions := 1, source := 2, role := 2, deskew := 5571 }, keeper2 := 2 * 1893456000050000000 }
theorem test_start_after_sync0 :
    let d := after .sync0Edge armedForSync
    d.regions[(0 : Fin 2)].seq.nextStart = some 660931 ∧ reads d 0x1310 5 = some 1893456000050000202 := by decide +kernel

theorem test_s3_ends_the_run :
    let d := after .shedStageAdvance { (running .running (seqWord 1) {}) with shed := { stage := 2, peak := 2, cause := 0x20 } }
    let d := after (.vectorIssue 0 noStrike noStrike) d
    d.regions[(0 : Fin 2)].run.endReason = 7 ∧ d.regions[(0 : Fin 2)].mode = .fold ∧ d.shed.stage = 3 := by decide +kernel

/-- Cell 20 as the example of ch. 9 has it, with two Alarm samples, its input above the High threshold or not. -/
def guarded20 (high : Bool) : Device :=
  live.onCell 20 fun x =>
    { x with sentinel := { x.sentinel with
        cfg := { cls := .both, low := -300000, high := 3800000, notifyOnset := true, logs := true }
        output := .clear, powered := true, aboveLow := some true, aboveHigh := some high
        history := [some true, some true, some false, some false, some false] } }
theorem test_third_alarm_sample :
    let d := after (.sentinelSample (.cell 20) 3900000) (clocked 12602000 (guarded20 true))
    reads d 0x4149 2 = some 2 ∧ reads d 0x4149 5 = some 12602000 ∧ reads d 0x4149 7 = some 1 ∧ reads d 0x4149 0xB = some 1 := by
  decide +kernel
theorem test_sentinel_threshold :
    (after (.sentinelCrossing (.cell 20) 3810300) (guarded20 false)).cells[(20 : Fin 128)].sentinel.aboveHigh = some true ∧
    (after (.sentinelCrossing (.cell 20) 3810200) (guarded20 false)).cells[(20 : Fin 128)].sentinel.aboveHigh = some false := by decide +kernel

/-! The sequencer (R73) and the microengine (R302): hand calculation. -/

/-- Region A runs a program, at an instruction. -/
def programmed (p : List (BitVec 128)) (c : Cursor) : Device :=
  onA fun x => { x with mode := .run, run := { state := .running }, program := p, seq := { cur := c, nextStart := some 2048, lastPeriod := 2048 } }
theorem test_call_and_return :
    (after (.seqCall 0) (programmed [instr 8 0 5 0] {})).regions[(0 : Fin 2)].seq.cur = { pc := 5, loops := [], calls := [1] } ∧
    (after (.seqReturn 0) (programmed [instr 9 0 0 0] { calls := [7] })).regions[(0 : Fin 2)].seq.cur = { pc := 7, loops := [], calls := [] } := by
  decide +kernel
theorem test_loop_and_endloop :
    (after (.seqLoop 0) (programmed [instr 3 200000 0 0] {})).regions[(0 : Fin 2)].seq.cur.loops = [(1, 200000)] ∧
    (after (.seqEndloop 0) (programmed [0, instr 4 0 0 0] { pc := 1, loops := [(1, 2)] })).regions[(0 : Fin 2)].seq.cur =
      { pc := 1, loops := [(1, 1)], calls := [] } ∧
    (after (.seqEndloop 0) (programmed [0, instr 4 0 0 0] { pc := 1, loops := [(1, 1)] })).regions[(0 : Fin 2)].seq.cur =
      { pc := 2, loops := [], calls := [] } := by decide +kernel
/-- A word with Rd 1, Ra 2 and the immediate. -/
def immWord (op imm : Nat) : BitVec 128 := BitVec.ofNat 128 (op * 2 ^ 114 + 1 * 2 ^ 107 + 2 * 2 ^ 103 + 2 ^ 98 + imm * 2 ^ 64)
/-- Context 0 after a word with r2 at a value: r1 and the flags. -/
def computed (c : Instr) (w : BitVec 128) (v : BitVec 64) : BitVec 64 × Bool × Bool × Bool :=
  let x := (after c ((micro .running w).onCtx 0 fun x => { x with regs := x.regs.set 2 v })).ryu.ctxs[(0 : Fin 4)]
  (x.regs[1], x.z, x.n, x.c)
theorem test_micro_add_wraps : computed (.microAdd 0 .clean) (immWord 2 1) 0xFFFFFFFFFFFFFFFF = (0, true, false, true) := by decide +kernel
theorem test_micro_sub_borrows :
    computed (.microSub 0 .clean) (immWord 3 1) 0 = (0xFFFFFFFFFFFFFFFF, false, true, true) := by decide +kernel
theorem test_micro_mov_extends :
    (computed (.microMov 0 .clean) (immWord 1 0x80000000) 0).1 = 0xFFFFFFFF80000000 := by decide +kernel

end Sys2Proof.Tests
end

section
/-!
SUPPORT. A refused write of a register of the core die, the rows of Setup as writes of their registers, and what is left of an
admission result (R26, R51, R65, R70, R86, R91).
-/
namespace Sys2Proof.Machine

/-! ### The refusal of a write -/

@[simp] theorem firstRefusal_cons_false (c r : Nat) (l : List Check) : firstRefusal ((false, c, r) :: l) = firstRefusal l := by
  rw [firstRefusal]
  cases firstRefusal l <;> rfl

/-- The Code and Reason of a refusal are those of a check of the list. -/
theorem firstRefusal_mem {l : List Check} {y : Refuse} (h : firstRefusal l = some y) : (true, y.code, y.reason) ∈ l := by
  induction l generalizing y with
  | nil => cases h
  | cons x l ih =>
    obtain ⟨b, c, r⟩ := x
    cases b with
    | false => exact List.mem_cons_of_mem _ (ih (by simpa using h))
    | true =>
      rw [firstRefusal] at h
      cases hl : firstRefusal l with
      | none =>
        obtain rfl : _ = y := by simpa [hl] using h
        exact List.mem_cons_self
      | some z =>
        have hy : Refuse.first { code := c, reason := r } z = y := by simpa [hl] using h
        unfold Refuse.first at hy
        split at hy
        · exact hy ▸ List.mem_cons_self
        · exact hy ▸ List.mem_cons_of_mem _ (ih hl)

/-- A check that applies gives the refusal where every other check has a greater Code (R360). -/
theorem firstRefusal_cons_of_lt {c r : Nat} {l : List Check} (h : ∀ x ∈ l, c < x.2.1) :
    firstRefusal ((true, c, r) :: l) = some { code := c, reason := r } := by
  rw [firstRefusal]
  cases hl : firstRefusal l with
  | none => rfl
  | some z => simp [Refuse.first, h _ (firstRefusal_mem hl)]

theorem firstRefusal_append_of_none {l m : List Check} (h : firstRefusal l = none) : firstRefusal (l ++ m) = firstRefusal m := by
  induction l with
  | nil => rfl
  | cons x l ih =>
    obtain ⟨b, c, r⟩ := x
    obtain ⟨rfl, hl⟩ := (firstRefusal_cons_none b c r l).mp h
    rw [List.cons_append, firstRefusal_cons_false, ih hl]

/-- The write of a register that a rule of state or value refuses: it is answered with that refusal, and changes nothing (R358,
R360). -/
theorem Device.writeReg_refused {d : Device} {h : Hdr} {i : Fin 16} {t : Target} {w : Data} {spec : Fin 16 → Device → WSpec}
    {x : Refuse} (hm : MayWrite d h i) (ha : firstRefusal (spec i (d.heard i h)).access = none)
    (hw : firstRefusal ((d.heard i h).writeChecks t w (spec i (d.heard i h))) = some x) :
    d.writeReg h t w spec = (d.heard i h).refuses i h x.code x.reason t.idx t.sub := by
  obtain ⟨hh, hd, hb, hc⟩ := hm
  have hc' : t.region.elim Copy.same (d.heard i h).copyState = .same := by
    cases t.region with
    | none => rfl
    | some r => simpa using hc r
  have ha' : firstRefusal ((d.heard i h).dealerChecks i ++ (spec i (d.heard i h)).access) = none := by
    simp [Device.dealerChecks, ha, hd, hb]
  simp only [Device.writeReg, Device.receive_heard hh, Device.tryWrite, ha', hc', hw]
  rfl

/-! ### A row that writes a register of the core die -/

section
variable {c : Instr} {s : State} {h : Hdr} {i : Fin 16} {t : Target} {w : Data} {spec : Fin 16 → Device → WSpec}

/-- A row that writes a register of the core die does what the register makes of the write, where no rule of it refuses (R358). -/
theorem accepts_of_writeReg (hc : exec c s = onDev s fun d => d.writeReg h t w spec) (hm : MayWrite s.dev h i)
    (ht : t.pinDie = false) (ha : firstRefusal (spec i (s.dev.heard i h)).access = none)
    (hs : firstRefusal (spec i (s.dev.heard i h)).state = none) (hl : w.len = (spec i (s.dev.heard i h)).len)
    (hv : firstRefusal (spec i (s.dev.heard i h)).value = none) :
    Accepts c s h i (spec i (s.dev.heard i h)).apply := by
  have hw := (Device.writeChecks_none (s.dev.heard i h) t w (spec i (s.dev.heard i h))).mpr
    ⟨by simp [Device.dieCheck, ht], hs, hl, hv⟩
  rw [Accepts, Gives, hc, onDev, Device.writeReg_ok hm ha hw]

/-- A row that writes a register of the core die is answered with the register's one rule of state where that applies, whatever is
written: it comes before the rules of value, of Code 7, and before the Length (R360). -/
theorem gives_refusal_of_state {r : Nat} (hc : exec c s = onDev s fun d => d.writeReg h t w spec) (hm : MayWrite s.dev h i)
    (ht : t.pinDie = false) (ha : firstRefusal (spec i (s.dev.heard i h)).access = none)
    (hs : (spec i (s.dev.heard i h)).state = [(true, 5, r)]) (hv : ∀ x ∈ (spec i (s.dev.heard i h)).value, x.2.1 = 7) :
    Gives c s ((s.dev.heard i h).refuses i h 5 r t.idx t.sub) := by
  have hw : firstRefusal ((s.dev.heard i h).writeChecks t w (spec i (s.dev.heard i h))) = some { code := 5, reason := r } := by
    simp only [Device.writeChecks, Device.dieCheck, ht, Bool.false_and, firstRefusal_cons_false, hs, List.cons_append,
      List.nil_append]
    refine firstRefusal_cons_of_lt fun x hx => ?_
    split at hx
    · simp [hv x hx]
    · simp [List.mem_singleton.mp hx]
  rw [Gives, hc, onDev, Device.writeReg_refused hm ha hw]

/-- A row that writes a register of the core die with the right Length is answered with the rule of value that refuses it, where no rule
of state does (R360). -/
theorem gives_refusal_of_value {x : Refuse} (hc : exec c s = onDev s fun d => d.writeReg h t w spec) (hm : MayWrite s.dev h i)
    (ht : t.pinDie = false) (ha : firstRefusal (spec i (s.dev.heard i h)).access = none)
    (hs : firstRefusal (spec i (s.dev.heard i h)).state = none) (hl : w.len = (spec i (s.dev.heard i h)).len)
    (hv : firstRefusal (spec i (s.dev.heard i h)).value = some x) :
    Gives c s ((s.dev.heard i h).refuses i h x.code x.reason t.idx t.sub) := by
  have hw : firstRefusal ((s.dev.heard i h).writeChecks t w (spec i (s.dev.heard i h))) = some x := by
    simp only [Device.writeChecks, Device.dieCheck, ht, Bool.false_and, List.cons_append, firstRefusal_cons_false,
      firstRefusal_append_of_none hs, if_pos hl, hv]
  rw [Gives, hc, onDev, Device.writeReg_refused hm ha hw]

end

/-! ### Admission results that are no longer current -/

/-- A region whose admission result is no longer current: a result that is being evaluated is yet to come (log entry 34). -/
def Region.dropResult (x : Region) : Region :=
  { x with adm := if x.adm.result = .evaluating then x.adm else { x.adm with result := .none } }

theorem Region.dropResult_result (x : Region) :
    x.dropResult.adm.result = if x.adm.result = .evaluating then .evaluating else .none := by
  by_cases e : x.adm.result = .evaluating <;> simp [Region.dropResult, e]

@[simp] theorem Region.dropResult_dropResult (x : Region) : x.dropResult.dropResult = x.dropResult := by
  by_cases e : x.adm.result = .evaluating <;> simp [Region.dropResult, e]

theorem Device.invalidate_eq (d : Device) (r : RegionIx) :
    d.invalidate r = if d.modes.coupled then (d.onRegion r Region.dropResult).onRegion (partner r) Region.dropResult
      else d.onRegion r Region.dropResult := rfl

@[simp] theorem Device.invalidate_modes (d : Device) (r : RegionIx) : (d.invalidate r).modes = d.modes := by
  rw [Device.invalidate_eq]
  split <;> rfl

/-- The results that a change at a region reaches: its own, and in coupled operation both (R91). -/
theorem Device.invalidate_get (d : Device) (r k : RegionIx) :
    (d.invalidate r).regions[k] = if k = r ∨ d.modes.coupled = true then d.regions[k].dropResult else d.regions[k] := by
  rw [Device.invalidate_eq]
  cases d.modes.coupled <;> fin_cases r <;> fin_cases k <;> simp [partner]

theorem Device.invalidate_result {d : Device} {r k : RegionIx} (h : k = r ∨ d.modes.coupled = true) :
    (d.invalidate r).regions[k].adm.result = if d.regions[k].adm.result = .evaluating then .evaluating else .none := by
  rw [Device.invalidate_get, if_pos h, Region.dropResult_result]

/-- A change of both regions reaches the result of each, and dropping it twice is dropping it once. -/
theorem Device.invalidateBoth_result (d : Device) (k : RegionIx) :
    d.invalidateBoth.regions[k].adm.result = if d.regions[k].adm.result = .evaluating then .evaluating else .none := by
  have hk : d.invalidateBoth.regions[k] = d.regions[k].dropResult := by
    rw [Device.invalidateBoth, Device.invalidate_get, Device.invalidate_get, Device.invalidate_modes]
    cases d.modes.coupled <;> fin_cases k <;> simp
  rw [hk, Region.dropResult_result]

/-! ### The rows -/

section
variable {s : State} {h : Hdr} {i : Fin 16} {r : RegionIx} {k p : WaggleIx} {w : Data}

theorem exec_couplingWrite :
    exec (.couplingWrite h w) s = onDev s fun d => d.writeReg h (chipTarget 0x2010 3) w fun _ => specCoupling w.val := rfl

theorem exec_timingSetPeriodWrite : exec (.timingSetPeriodWrite h r k w) s =
    onDev s fun d => d.writeReg h (regionTarget r (0x100 + k.val) 1) w fun _ => specPeriod r k w.val := rfl

theorem exec_cellTimingWrite : exec (.cellTimingWrite h r k p w) s =
    onDev s fun d => d.writeReg h (regionTarget r (0x100 + k.val) (0x40 + p.val)) w fun _ => specCellTiming r k p w.val := rfl

theorem exec_entryIndexWrite : exec (.entryIndexWrite h r w) s =
    onDev s fun d => d.writeReg h (regionTarget r 0x10 2) w fun _ _ => specEntry r w.val := rfl

theorem exec_anchoredEntriesWrite : exec (.anchoredEntriesWrite h r w) s =
    onDev s fun d => d.writeReg h (regionTarget r 0x20 1) w fun _ => specAnchored r w.val := rfl

theorem exec_stallPolicyWrite : exec (.stallPolicyWrite h r w) s =
    onDev s fun d => d.writeReg h (regionTarget r 0x30 0) w fun _ => specStallPolicy r w.val := rfl

variable (hm : MayWrite s.dev h i)
include hm

theorem couplingWrite_refused_of_busy (hb : s.dev.anyBusy = true) :
    Gives (.couplingWrite h w) s ((s.dev.heard i h).refuses i h 5 1 0x2010 3) :=
  gives_refusal_of_state exec_couplingWrite hm rfl rfl (by simp [specCoupling, hb]) (by simp [specCoupling, codeCheck])

theorem couplingWrite_accepted (hl : w.len = 1) (hv : w.val < 2) (hb : s.dev.anyBusy = false) :
    Accepts (.couplingWrite h w) s h i (specCoupling w.val (s.dev.heard i h)).apply :=
  accepts_of_writeReg exec_couplingWrite hm rfl rfl (by simp [specCoupling, hb]) hl (by simpa [specCoupling, codeCheck] using hv)

theorem timingSetPeriodWrite_accepted (hl : w.len = 8) (hb : s.dev.regions[r].busyMode = false) :
    Accepts (.timingSetPeriodWrite h r k w) s h i (specPeriod r k w.val (s.dev.heard i h)).apply :=
  accepts_of_writeReg exec_timingSetPeriodWrite hm rfl rfl (by simpa [specPeriod, Device.busyCheck] using hb) hl rfl

theorem cellTimingWrite_accepted (hl : w.len = 40) (hb : s.dev.regions[r].busyMode = false) :
    Accepts (.cellTimingWrite h r k p w) s h i (specCellTiming r k p w.val (s.dev.heard i h)).apply :=
  accepts_of_writeReg exec_cellTimingWrite hm rfl rfl (by simpa [specCellTiming, Device.busyCheck] using hb) hl rfl

theorem entryIndexWrite_accepted (hl : w.len = 2) (hv : w.val ≤ 16383) :
    Accepts (.entryIndexWrite h r w) s h i (specEntry r w.val).apply :=
  accepts_of_writeReg exec_entryIndexWrite hm rfl rfl rfl hl (by simpa [specEntry, inRangeN] using hv)

theorem stallPolicyWrite_accepted (hl : w.len = 4) (hv : w.val / 256 % 256 ≠ 0) (hb : s.dev.regions[r].busyMode = false) :
    Accepts (.stallPolicyWrite h r w) s h i (specStallPolicy r w.val (s.dev.heard i h)).apply :=
  accepts_of_writeReg exec_stallPolicyWrite hm rfl rfl (by simpa [specStallPolicy, Device.busyCheck] using hb) hl
    ((firstRefusal_cons_none _ _ _ _).mpr ⟨decide_eq_false hv, rfl⟩)

omit hm in
/-- The rule of state of AnchoredEntries: the region, or in coupled operation either, is in Run or Calibrate (R70). -/
theorem specAnchored_state (v : Nat) : (specAnchored r v (s.dev.heard i h)).state =
    [(if s.dev.modes.coupled then s.dev.anyBusy else s.dev.regions[r].busyMode, 5, 1)] := by
  simp [specAnchored, Device.runCheck]

theorem anchoredEntriesWrite_refused_of_busy
    (hb : (if s.dev.modes.coupled then s.dev.anyBusy else s.dev.regions[r].busyMode) = true) :
    Gives (.anchoredEntriesWrite h r w) s ((s.dev.heard i h).refuses i h 5 1 (regionBase r + 0x20) 1) :=
  gives_refusal_of_state exec_anchoredEntriesWrite hm rfl rfl (by rw [specAnchored_state, hb]) (by simp [specAnchored])

theorem anchoredEntriesWrite_refused_of_value
    (hb : (if s.dev.modes.coupled then s.dev.anyBusy else s.dev.regions[r].busyMode) = false) (hl : w.len = 4)
    (hv : w.val % 4096 ≠ 0 ∨ 491520 < w.val) :
    Gives (.anchoredEntriesWrite h r w) s ((s.dev.heard i h).refuses i h 7 1 (regionBase r + 0x20) 1) :=
  gives_refusal_of_value (x := { code := 7, reason := 1 }) exec_anchoredEntriesWrite hm rfl rfl
    (by rw [specAnchored_state, hb]; rfl) hl (by simp only [specAnchored, decide_eq_true hv]; rfl)

theorem anchoredEntriesWrite_accepted (hl : w.len = 4) (ha : w.val % 4096 = 0) (hv : w.val ≤ 491520)
    (hb : (if s.dev.modes.coupled then s.dev.anyBusy else s.dev.regions[r].busyMode) = false) :
    Accepts (.anchoredEntriesWrite h r w) s h i (specAnchored r w.val (s.dev.heard i h)).apply :=
  accepts_of_writeReg exec_anchoredEntriesWrite hm rfl rfl (by rw [specAnchored_state, hb]; rfl) hl (by simp [specAnchored, ha, hv])

end

/-- Settles O11: each row is the write of one register, so its clause follows from the register's rules; what a change leaves of an
admission result is the law of `Device.invalidate`. -/
theorem setupWritesStore : Obligations.SetupWritesStore := by
  intro s h i r k p w busy hm
  exact ⟨couplingWrite_refused_of_busy hm, Device.invalidateBoth_result, anchoredEntriesWrite_refused_of_busy hm,
    anchoredEntriesWrite_refused_of_value hm, fun _ _ => Device.invalidate_result, couplingWrite_accepted hm,
    timingSetPeriodWrite_accepted hm, cellTimingWrite_accepted hm, entryIndexWrite_accepted hm, anchoredEntriesWrite_accepted hm,
    stallPolicyWrite_accepted hm⟩

end Sys2Proof.Machine
end

section
/-!
SUPPORT. D72 is linear: a wrong bit adds its column to the syndrome. The columns of data and check bits have odd weight and those of
fold bits even weight, so no two wrong bits and no wrong fold bit look like a single error (R251, R252).
-/
namespace Sys2Proof.Machine

/-! ### Exclusive OR of columns -/

@[simp] theorem xorColumns_zero (cs : List Nat) : xorColumns cs 0 = 0 := by
  induction cs with
  | nil => rfl
  | cons c cs ih => simp [xorColumns, ih]

theorem xorColumns_xor (cs : List Nat) (v w : Nat) : xorColumns cs (v ^^^ w) = xorColumns cs v ^^^ xorColumns cs w := by
  induction cs generalizing v w with
  | nil => simp [xorColumns]
  | cons c cs ih =>
    have bit : (if (v ^^^ w) % 2 = 1 then c else 0) = (if v % 2 = 1 then c else 0) ^^^ (if w % 2 = 1 then c else 0) := by
      rcases Nat.mod_two_eq_zero_or_one v with hv | hv <;> rcases Nat.mod_two_eq_zero_or_one w with hw | hw <;>
        simp [Nat.xor_mod_two_eq, Nat.add_mod, hv, hw]
    have rest : (v ^^^ w) / 2 = v / 2 ^^^ w / 2 := by simpa using Nat.xor_div_two_pow (a := v) (b := w) (n := 1)
    simp only [xorColumns, bit, rest, ih]
    ac_rfl

theorem xorColumns_two_pow {cs : List Nat} {i x : Nat} (h : cs[i]? = some x) : xorColumns cs (2 ^ i) = x := by
  induction cs generalizing i with
  | nil => cases h
  | cons c cs ih =>
    cases i with
    | zero =>
      obtain rfl : c = x := by simpa using h
      simp [xorColumns]
    | succ i =>
      have hi : xorColumns cs (2 ^ i) = x := ih (by simpa using h)
      simp [xorColumns, Nat.pow_succ, hi]

/-! ### What a wrong bit does to the check bits -/

theorem d72_flip_data {i x : Nat} (h : dataColumns[i]? = some x) (v f : Nat) : d72 (v ^^^ 2 ^ i) f = d72 v f ^^^ x := by
  rw [d72, d72, xorColumns_xor, xorColumns_two_pow h]
  ac_rfl

theorem d72_flip_fold {k x : Nat} (h : foldColumns[k]? = some x) (v f : Nat) : d72 v (f ^^^ 2 ^ k) = d72 v f ^^^ x := by
  rw [d72, d72, xorColumns_xor, xorColumns_two_pow h, Nat.xor_assoc]

/-! ### The parity of a column's weight -/

/-- 1 where an odd number of the low eight bits is set, else 0: the part of the weight that an exclusive OR adds up. -/
def weightParity (s : Nat) : Nat := xorColumns (List.replicate 8 1) s

theorem weightParity_xor (s t : Nat) : weightParity (s ^^^ t) = weightParity s ^^^ weightParity t := xorColumns_xor _ s t

/-- The syndromes that stand for one wrong bit: the columns of the data bits and of the check bits (R252). -/
def IsErrorColumn (s : Nat) : Prop := s ∈ dataColumns ∨ ∃ j < 8, s = 2 ^ j

theorem isErrorColumn_of_getElem? {i x : Nat} (h : dataColumns[i]? = some x) : IsErrorColumn x := .inl (List.mem_of_getElem? h)

theorem isErrorColumn_two_pow {j : Nat} (hj : j < 8) : IsErrorColumn (2 ^ j) := .inr ⟨j, hj, rfl⟩

theorem IsErrorColumn.weightParity {s : Nat} (h : IsErrorColumn s) : weightParity s = 1 := by
  obtain hs | ⟨j, hj, rfl⟩ := h
  · have odd : ∀ x ∈ dataColumns, Machine.weightParity x = 1 := by decide
    exact odd s hs
  · exact xorColumns_two_pow (List.getElem?_replicate_of_lt hj)

theorem IsErrorColumn.ne_zero {s : Nat} (h : IsErrorColumn s) : s ≠ 0 := by
  rintro rfl
  exact absurd h.weightParity (by decide)

theorem foldColumn_weightParity {x : Nat} (h : x ∈ foldColumns) : weightParity x = 0 := by
  have even : ∀ x ∈ foldColumns, weightParity x = 0 := by decide
  exact even x h

theorem foldColumn_ne_zero {x : Nat} (h : x ∈ foldColumns) : x ≠ 0 := by
  rintro rfl
  exact absurd h (by decide)

theorem dataColumns_nodup : dataColumns.Nodup := by decide

theorem dataColumn_ne_two_pow {x j : Nat} (h : x ∈ dataColumns) (hj : j < 8) : x ≠ 2 ^ j := by
  have apart : ∀ j < 8, 2 ^ j ∉ dataColumns := by decide
  rintro rfl
  exact apart j hj h

/-! ### How a syndrome is judged (R252) -/

section
variable {v c f i j s x y : Nat}

theorem find?_checkBit_none (h : ∀ j, j < 8 → s ≠ 2 ^ j) : ((List.range 8).find? fun j => decide (s = 2 ^ j)) = none := by
  simpa [List.find?_eq_none] using h

theorem d72Decode_clean (h : c ^^^ d72 v f = 0) : d72Decode v c f = some { data := v, chk := c, corrected := false } := by
  rw [d72Decode, h]
  rfl

theorem d72Decode_data (h : dataColumns[i]? = some (c ^^^ d72 v f)) :
    d72Decode v c f = some { data := v ^^^ 2 ^ i, chk := c, corrected := true } := by
  obtain ⟨hi, hs⟩ := List.getElem?_eq_some_iff.mp h
  have mem : c ^^^ d72 v f ∈ dataColumns := List.mem_of_getElem? h
  have idx : dataColumns.idxOf (c ^^^ d72 v f) = i := hs ▸ dataColumns_nodup.idxOf_getElem i hi
  simp only [d72Decode, if_neg (isErrorColumn_of_getElem? h).ne_zero,
    find?_checkBit_none fun _ => dataColumn_ne_two_pow mem, idx]
  exact if_pos hi

theorem d72Decode_check (hj : j < 8) (h : c ^^^ d72 v f = 2 ^ j) :
    d72Decode v c f = some { data := v, chk := c ^^^ 2 ^ j, corrected := true } := by
  have find : ((List.range 8).find? fun k => decide (2 ^ j = 2 ^ k)) = some j := by
    rw [List.find?_range_eq_some]
    exact ⟨by simp, by simpa using hj, fun k hk => by simp; omega⟩
  simp only [d72Decode, h, if_neg (isErrorColumn_two_pow hj).ne_zero, find]

theorem d72Decode_uncorrectable (h0 : c ^^^ d72 v f ≠ 0) (h : ¬ IsErrorColumn (c ^^^ d72 v f)) : d72Decode v c f = none := by
  have idx : dataColumns.idxOf (c ^^^ d72 v f) = 64 := List.idxOf_eq_length_iff.mpr fun hm => h (.inl hm)
  simp only [d72Decode, if_neg h0, find?_checkBit_none fun j hj e => h (.inr ⟨j, hj, e⟩), idx]
  rfl

theorem d72Decode_even (h : c ^^^ d72 v f = s) (h0 : s ≠ 0) (hp : weightParity s = 0) : d72Decode v c f = none := by
  subst h
  refine d72Decode_uncorrectable h0 fun he => ?_
  exact absurd (he.weightParity.symm.trans hp) (by decide)

/-- Two wrong bits add up two different columns of odd weight. -/
theorem d72Decode_two_errors (h : c ^^^ d72 v f = x ^^^ y) (hx : IsErrorColumn x) (hy : IsErrorColumn y) (hne : x ≠ y) :
    d72Decode v c f = none :=
  d72Decode_even h (Nat.xor_ne_zero_iff.mpr hne) (by rw [weightParity_xor, hx.weightParity, hy.weightParity]; rfl)

end

/-! ### Wrong bits of a codeword that was written -/

section
variable (v f : Nat) {i j k : Nat}

theorem dataColumn_of_lt (hi : i < 64) : ∃ x, dataColumns[i]? = some x := ⟨_, List.getElem?_eq_getElem (l := dataColumns) hi⟩

theorem d72Decode_flip_data (hi : i < 64) :
    d72Decode (v ^^^ 2 ^ i) (d72 v f) f = some { data := v, chk := d72 v f, corrected := true } := by
  obtain ⟨x, hx⟩ := dataColumn_of_lt hi
  have syn : d72 v f ^^^ d72 (v ^^^ 2 ^ i) f = x := by rw [d72_flip_data hx, Nat.xor_xor_cancel_left]
  rw [d72Decode_data (v := v ^^^ 2 ^ i) (by rw [hx, syn]), Nat.xor_xor_cancel_right]

theorem d72Decode_flip_check (hj : j < 8) :
    d72Decode v (d72 v f ^^^ 2 ^ j) f = some { data := v, chk := d72 v f, corrected := true } := by
  have syn : d72 v f ^^^ 2 ^ j ^^^ d72 v f = 2 ^ j := by rw [Nat.xor_comm, Nat.xor_xor_cancel_left]
  simpa only [Nat.xor_xor_cancel_right] using d72Decode_check hj syn

theorem d72Decode_flip_data_data (hik : i < k) (hk : k < 64) : d72Decode (v ^^^ 2 ^ i ^^^ 2 ^ k) (d72 v f) f = none := by
  obtain ⟨x, hx⟩ := dataColumn_of_lt (hik.trans hk)
  obtain ⟨y, hy⟩ := dataColumn_of_lt hk
  have syn : d72 v f ^^^ d72 (v ^^^ 2 ^ i ^^^ 2 ^ k) f = x ^^^ y := by
    rw [d72_flip_data hy, d72_flip_data hx, Nat.xor_assoc, Nat.xor_xor_cancel_left]
  refine d72Decode_two_errors syn (isErrorColumn_of_getElem? hx) (isErrorColumn_of_getElem? hy) ?_
  rintro rfl
  exact List.nodup_iff_getElem?_ne_getElem?.mp dataColumns_nodup i k hik hk (hx.trans hy.symm)

theorem d72Decode_flip_data_check (hi : i < 64) (hj : j < 8) : d72Decode (v ^^^ 2 ^ i) (d72 v f ^^^ 2 ^ j) f = none := by
  obtain ⟨x, hx⟩ := dataColumn_of_lt hi
  have syn : d72 v f ^^^ 2 ^ j ^^^ d72 (v ^^^ 2 ^ i) f = x ^^^ 2 ^ j := by
    rw [d72_flip_data hx, Nat.xor_comm, Nat.xor_assoc, Nat.xor_left_comm, Nat.xor_xor_cancel_left]
  exact d72Decode_two_errors syn (isErrorColumn_of_getElem? hx) (isErrorColumn_two_pow hj)
    (dataColumn_ne_two_pow (List.mem_of_getElem? hx) hj)

theorem d72Decode_flip_check_check (hjk : j < k) (hk : k < 8) : d72Decode v (d72 v f ^^^ 2 ^ j ^^^ 2 ^ k) f = none := by
  have syn : d72 v f ^^^ 2 ^ j ^^^ 2 ^ k ^^^ d72 v f = 2 ^ j ^^^ 2 ^ k := by
    rw [Nat.xor_comm, Nat.xor_assoc, Nat.xor_xor_cancel_left]
  exact d72Decode_two_errors syn (isErrorColumn_two_pow (hjk.trans hk)) (isErrorColumn_two_pow hk)
    (Nat.pow_lt_pow_right (by decide) hjk).ne

theorem d72Decode_flip_fold (hk : k < 40) : d72Decode v (d72 v f) (f ^^^ 2 ^ k) = none := by
  obtain ⟨x, hx⟩ : ∃ x, foldColumns[k]? = some x := ⟨_, List.getElem?_eq_getElem (l := foldColumns) hk⟩
  have mem : x ∈ foldColumns := List.mem_of_getElem? hx
  have syn : d72 v f ^^^ d72 v (f ^^^ 2 ^ k) = x := by rw [d72_flip_fold hx, Nat.xor_xor_cancel_left]
  exact d72Decode_even syn (foldColumn_ne_zero mem) (foldColumn_weightParity mem)

end

/-- Settles O6: each clause is one kind of error, whose syndrome is the exclusive OR of the columns of its wrong bits; the syndromes
that are judged uncorrectable there have even weight. -/
theorem codeCorrectsOneBitAndDetectsTwo : Obligations.CodeCorrectsOneBitAndDetectsTwo := by
  intro data fold v f c
  refine ⟨d72Decode_clean (Nat.xor_self c), fun _ => d72Decode_flip_data v f, fun _ => d72Decode_flip_check v f,
    fun _ _ => d72Decode_flip_data_data v f, fun _ _ => d72Decode_flip_data_check v f, fun _ _ => d72Decode_flip_check_check v f,
    fun _ => d72Decode_flip_fold v f, fun chk _ => ⟨d72Decode_clean, fun _ _ => d72Decode_data, fun _ => d72Decode_check, ?_⟩⟩
  intro h0 hData hCheck
  refine d72Decode_uncorrectable h0 ?_
  rintro (hs | ⟨j, hj, hs⟩)
  · exact hData hs
  · exact hCheck j hj hs

end Sys2Proof.Machine
end

section
/-!
SUPPORT. What a Fold leaves of the deal and of the region modes: only the end of a run and the Fold itself move a mode, and neither
touches the Dealer record (R97, R336, R398).
-/
namespace Sys2Proof.Machine

/-! ### The deal and the region modes -/

/-- What a Fold is followed in here: who has the deal, why it was last vacated, and the mode of each region. -/
structure Standing where
  dealer : DealerRec
  cause : VacateCause
  mode : RegionIx → RMode

/-- The deal and the region modes of a device. -/
def Device.standing (d : Device) : Standing where
  dealer := d.link.dealer
  cause := d.link.vacateCause
  mode k := d.regions[k].mode

section
variable {d : Device} {a : Standing} (h : d.standing = a)
include h

theorem Device.dealer_of_standing : d.link.dealer = a.dealer := congrArg Standing.dealer h

theorem Device.cause_of_standing : d.link.vacateCause = a.cause := congrArg Standing.cause h

theorem Device.mode_of_standing (k : RegionIx) : d.regions[k].mode = a.mode k := congrFun (congrArg Standing.mode h) k

end

theorem Standing.update_mode_self (a : Standing) (r : RegionIx) : { a with mode := Function.update a.mode r (a.mode r) } = a := by
  rw [Function.update_eq_self]

theorem Device.standing_foldl {α : Type} {f : Device → α → Device} (h : ∀ d a, (f d a).standing = d.standing) (l : List α) (d : Device) :
    (l.foldl f d).standing = d.standing := by
  induction l generalizing d with
  | nil => rfl
  | cons a l ih => rw [List.foldl_cons, ih, h]

section
variable (d : Device)

/-! ### Updates of one part -/

@[simp] theorem Device.onCell_standing (c : CellIx) (f : Cell → Cell) : (d.onCell c f).standing = d.standing := rfl
@[simp] theorem Device.onCells_standing (p : Nat → Bool) (f : Cell → Cell) : (d.onCells p f).standing = d.standing := rfl
@[simp] theorem Device.onBlock_standing (b : BlockIx) (f : Block → Block) : (d.onBlock b f).standing = d.standing := rfl
@[simp] theorem Device.onDram_standing (n : DramIx) (f : DramChan → DramChan) : (d.onDram n f).standing = d.standing := rfl
@[simp] theorem Device.onChan_standing (k : WaggleIx) (f : WChan → WChan) : (d.onChan k f).standing = d.standing := rfl
@[simp] theorem Device.onCtx_standing (x : CtxIx) (f : Context → Context) : (d.onCtx x f).standing = d.standing := rfl

/-- A change of one region moves its mode alone. -/
theorem Device.onRegion_standing (r : RegionIx) (f : Region → Region) :
    (d.onRegion r f).standing = { d.standing with mode := Function.update d.standing.mode r (f d.regions[r]).mode } := by
  have hm : (fun k : RegionIx => (d.onRegion r f).regions[k].mode) = Function.update d.standing.mode r (f d.regions[r]).mode := by
    funext k
    by_cases e : k = r
    · subst e; simp
    · have e' : r.val ≠ k.val := fun h => e (Fin.ext h.symm)
      simp [e, e', Device.standing]
  simp only [Device.standing, Device.onRegion_link, hm]

theorem Device.onRegion_standing_of_mode {r : RegionIx} {f : Region → Region} (h : ∀ x, (f x).mode = x.mode) :
    (d.onRegion r f).standing = d.standing := by
  rw [Device.onRegion_standing, h]
  exact d.standing.update_mode_self r

@[simp] theorem Device.onTally_standing (r : RegionIx) (f : Tally → Tally) : (d.onTally r f).standing = d.standing :=
  d.onRegion_standing_of_mode fun _ => rfl
@[simp] theorem Device.onMem_standing (r : RegionIx) (f : Dram → Dram) : (d.onMem r f).standing = d.standing :=
  d.onRegion_standing_of_mode fun _ => rfl
@[simp] theorem Device.onRun_standing (r : RegionIx) (f : Run → Run) : (d.onRun r f).standing = d.standing :=
  d.onRegion_standing_of_mode fun _ => rfl
@[simp] theorem Device.onSeq_standing (r : RegionIx) (f : Sequencer → Sequencer) : (d.onSeq r f).standing = d.standing :=
  d.onRegion_standing_of_mode fun _ => rfl

/-! ### Log, Notify and source events -/

@[simp] theorem Device.addLog_standing (level source data : Nat) : (d.addLog level source data).standing = d.standing := by
  unfold Device.addLog Device.queueEntry
  split <;> rfl

@[simp] theorem Device.addNote_standing (inst num data : Nat) : (d.addNote inst num data).standing = d.standing :=
  d.addLog_standing _ _ _

@[simp] theorem Device.notify_standing (kind level source data0 data1 : Nat) :
    (d.notify kind level source data0 data1).standing = d.standing := by
  simp only [Device.notify, Device.notifyAt]
  split
  · split <;> rfl
  · exact d.countDropped.addNote_standing _ _ _

@[simp] theorem Device.note_standing (kind inst num data data1 : Nat) : (d.note kind inst num data data1).standing = d.standing := by
  simp [Device.note]

@[simp] theorem Device.chanEvent_standing (k : WaggleIx) (dom : Domain) : (d.chanEvent k dom).standing = d.standing := by
  simp [Device.chanEvent, Device.coalesce, apply_ite Device.standing]

@[simp] theorem Device.sourceEvent_standing (code : Nat) (dom : Domain) : (d.sourceEvent code dom).standing = d.standing :=
  Device.standing_foldl (fun e k => e.chanEvent_standing k dom) _ d

@[simp] theorem Device.tallyEvent_standing (r : RegionIx) (i : Nat) : (d.tallyEvent r i).standing = d.standing :=
  d.sourceEvent_standing _ _

@[simp] theorem Device.fireSignals_standing (r : RegionIx) : (d.fireSignals r).standing = d.standing := by
  have hf (e : Device) (k : WaggleIx) : (e.fireChannel k (e.runDomain r)).standing = e.standing := e.chanEvent_standing k _
  rw [Device.fireSignals, Device.standing_foldl hf, Device.onSeq_standing]

/-! ### The Tally and the vectors left at the end of a run (R129) -/

@[simp] theorem Device.freezeAct_standing (r : RegionIx) (cycle order : Nat) : (d.freezeAct r cycle order).standing = d.standing := by
  simp [Device.freezeAct]

@[simp] theorem Device.autoFreeze_standing (r : RegionIx) (v : VecRec) : (d.autoFreeze r v).standing = d.standing := by
  simp [Device.autoFreeze, apply_ite Device.standing]

@[simp] theorem Device.firstDrop_standing (r : RegionIx) (was : Nat) : (d.firstDrop r was).standing = d.standing := by
  simp [Device.firstDrop, apply_ite Device.standing]

@[simp] theorem Device.offerRecord_standing (r : RegionIx) (v : VecRec) (p : Bool) : (d.offerRecord r v p).standing = d.standing := by
  simp [Device.offerRecord, apply_ite Device.standing]

@[simp] theorem Device.tallyProcess_standing (r : RegionIx) (v : VecRec) (p : Bool) : (d.tallyProcess r v p).standing = d.standing := by
  simp [Device.tallyProcess, apply_ite Device.standing]

@[simp] theorem Device.tellPartner_standing (r : RegionIx) (v : VecRec) : (d.tellPartner r v).standing = d.standing := by
  unfold Device.tellPartner
  split
  · exact d.onRegion_standing_of_mode fun _ => rfl
  · rfl

@[simp] theorem Device.finishVector_standing (r : RegionIx) (v : VecRec) : (d.finishVector r v).standing = d.standing := by
  rw [Device.finishVector, Device.onRegion_standing_of_mode]
  · simp [apply_ite Device.standing]
  · exact fun _ => rfl

@[simp] theorem Device.finishVectors_standing (r : RegionIx) : (d.finishVectors r).standing = d.standing :=
  Device.standing_foldl (fun e v => e.finishVector_standing r v) _ d

/-! ### Pins, DRAM and routines -/

@[simp] theorem Device.keepJoker_standing (b : BlockIx) : (d.keepJoker b).standing = d.standing := by
  unfold Device.keepJoker
  split <;> rfl

@[simp] theorem Device.abandonCal_standing (b : BlockIx) : (d.abandonCal b).standing = d.standing := by
  simp only [Device.abandonCal]
  split <;> simp [apply_ite Device.standing]

@[simp] theorem Device.abandonBlock_standing (b : BlockIx) : (d.abandonBlock b).standing = d.standing := rfl

@[simp] theorem Device.abandonFull_standing (r : RegionIx) : (d.abandonFull r).standing = d.standing :=
  d.onRegion_standing_of_mode (f := fun x => { x with fullCal := false }) fun _ => rfl

@[simp] theorem Device.clearTransitional_standing (q : Request) : (d.clearTransitional q).standing = d.standing := by
  unfold Device.clearTransitional
  split <;> rfl

@[simp] theorem Device.endRoutines_standing (x : CtxIx) (scope : ColId) : (d.endRoutines x scope).standing = d.standing := by
  have hq (l : List Request) : (l.foldl Device.clearTransitional d).standing = d.standing :=
    Device.standing_foldl Device.clearTransitional_standing l d
  simp only [Device.endRoutines]
  split
  · simp [apply_ite Device.standing, hq]
  · simp [hq]

@[simp] theorem Device.foldBlock_standing (b : BlockIx) : (d.foldBlock b).standing = d.standing := by
  simp [Device.foldBlock]

@[simp] theorem Device.foldPins_standing (r : RegionIx) : (d.foldPins r).standing = d.standing := by
  simp [Device.foldPins, Device.standing_foldl Device.foldBlock_standing]

@[simp] theorem Device.foldAgain_standing (r : RegionIx) : (d.foldAgain r).standing = d.standing := by
  simp [Device.foldAgain]

@[simp] theorem Device.abandonCheck_standing (r : RegionIx) : (d.abandonCheck r).standing = d.standing := by
  unfold Device.abandonCheck
  split
  · exact d.onRegion_standing_of_mode fun _ => rfl
  · rfl

@[simp] theorem Device.onDrams_standing (r : RegionIx) (f : DramChan → DramChan) : (d.onDrams r f).standing = d.standing := by
  simp [Device.onDrams]

@[simp] theorem Device.dramSleep_standing (r : RegionIx) : (d.dramSleep r).standing = d.standing := by
  unfold Device.dramSleep
  split <;> simp

@[simp] theorem Device.dramRunEnded_standing (r : RegionIx) : (d.dramRunEnded r).standing = d.standing :=
  d.onDrams_standing _ _

@[simp] theorem Device.refreshMode_standing : (d.refreshMode).standing = d.standing := by
  unfold Device.refreshMode Device.enterMode
  split
  · rfl
  · exact Device.addNote_standing _ _ _ _

end

/-! ### The end of a run, and a Fold -/

/-- All that the end of a run moves of a standing: regions in Run return to Ready (R97). -/
structure Standing.RunsEnd (a b : Standing) : Prop where
  dealer : b.dealer = a.dealer
  cause : b.cause = a.cause
  mode : ∀ k, b.mode k = a.mode k ∨ a.mode k = .run ∧ b.mode k = .ready

theorem Standing.RunsEnd.refl (a : Standing) : a.RunsEnd a := ⟨rfl, rfl, fun _ => .inl rfl⟩

theorem Standing.RunsEnd.trans {a b c : Standing} (hab : a.RunsEnd b) (hbc : b.RunsEnd c) : a.RunsEnd c where
  dealer := hbc.dealer.trans hab.dealer
  cause := hbc.cause.trans hab.cause
  mode k := by
    obtain hb | ⟨ha, hb⟩ := hab.mode k <;> obtain hc | ⟨hb', hc⟩ := hbc.mode k
    · exact .inl (hc.trans hb)
    · exact .inr ⟨hb ▸ hb', hc⟩
    · exact .inr ⟨ha, hc.trans hb⟩
    · simp [hb] at hb'

/-- One region returns from Run to Ready, or keeps its mode. -/
theorem Standing.runsEnd_update {a : Standing} {r : RegionIx} {m : RMode} (h : m = a.mode r ∨ a.mode r = .run ∧ m = .ready) :
    a.RunsEnd { a with mode := Function.update a.mode r m } where
  dealer := rfl
  cause := rfl
  mode k := by
    by_cases e : k = r
    · subst e; simpa using h
    · simp [e]

section
variable (d : Device)

theorem Device.onRegion_runsEnd {e : Device} {r : RegionIx} {f : Region → Region} (he : e.standing = d.standing)
    (hf : ∀ x, (f x).mode = x.mode ∨ x.mode = .run ∧ (f x).mode = .ready) : d.standing.RunsEnd (e.onRegion r f).standing := by
  rw [← he, Device.onRegion_standing]
  exact Standing.runsEnd_update (hf e.regions[r])

theorem Device.endRun_runsEnd (r : RegionIx) (reason : Nat) (drop : Bool) : d.standing.RunsEnd (d.endRun r reason drop).standing := by
  simp only [Device.endRun]
  split
  · exact .refl _
  · simp only [Device.sourceEvent_standing, Device.note_standing, Device.fireSignals_standing, apply_ite Device.standing,
      Device.dramRunEnded_standing, ite_self]
    refine Device.onRegion_runsEnd d (Device.finishVectors_standing _ r) fun x => ?_
    dsimp only
    split
    next h => exact .inr ⟨h.1, rfl⟩
    next => exact .inl rfl

theorem Device.endPartner_runsEnd (r : RegionIx) : d.standing.RunsEnd (d.endPartner r).standing := by
  simp only [Device.endPartner]
  split
  · exact .refl _
  · split
    · rw [Device.onRun_standing]
      exact .refl _
    · exact d.endRun_runsEnd _ _ _

/-- A Fold of a region: where the region is not Off its mode is Fold, and the runs that it ends move what the end of a run moves. -/
theorem Device.foldRegion_standing (reason : Nat) (r : RegionIx) : ∃ a : Standing, d.standing.RunsEnd a ∧ (d.foldRegion reason r).standing =
    { a with mode := Function.update a.mode r (if d.regions[r].mode = .off then .off else .fold) } := by
  have stays {e : Device} {m : RMode} (he : e.standing = d.standing) (hm : d.regions[r].mode = m) :
      ∃ a : Standing, d.standing.RunsEnd a ∧ e.standing = { a with mode := Function.update a.mode r m } := by
    subst hm
    exact ⟨d.standing, .refl _, he.trans (d.standing.update_mode_self r).symm⟩
  unfold Device.foldRegion
  split
  next hm =>
    rw [if_pos hm]
    refine stays ?_ hm
    split
    · exact d.endRoutines_standing _ _
    · rw [Device.onRegion_standing_of_mode, Device.foldAgain_standing]
      exact fun _ => rfl
  next hm =>
    rw [if_neg (by rw [hm]; decide)]
    exact stays (d.foldAgain_standing r) hm
  next hoff hfold =>
    rw [if_neg hoff]
    simp only [Device.sourceEvent_standing, Device.onRegion_standing, Device.endRoutines_standing, Device.dramSleep_standing,
      Device.abandonCheck_standing, Device.foldPins_standing]
    refine ⟨_, ?_, rfl⟩
    split
    · exact (d.endRun_runsEnd r reason true).trans (Device.endPartner_runsEnd _ r)
    · exact .refl _

variable {d} {reason : Nat} {r k : RegionIx}

theorem Device.foldRegion_dealer : (d.foldRegion reason r).link.dealer = d.link.dealer := by
  obtain ⟨a, ha, he⟩ := d.foldRegion_standing reason r
  exact (Device.dealer_of_standing he).trans ha.dealer

theorem Device.foldRegion_mode_self (h : d.regions[r].mode ≠ .off) : (d.foldRegion reason r).regions[r].mode = .fold := by
  obtain ⟨a, -, he⟩ := d.foldRegion_standing reason r
  rw [if_neg h] at he
  exact (Device.mode_of_standing he r).trans (Function.update_self r RMode.fold a.mode)

/-- The Fold of one region moves the mode of the other only where it ends a coupled run (R28). -/
theorem Device.foldRegion_mode_of_ne (h : k ≠ r) : (d.foldRegion reason r).regions[k].mode = d.regions[k].mode ∨
    d.regions[k].mode = .run ∧ (d.foldRegion reason r).regions[k].mode = .ready := by
  obtain ⟨a, ha, he⟩ := d.foldRegion_standing reason r
  have hk : (d.foldRegion reason r).regions[k].mode = a.mode k :=
    (Device.mode_of_standing he k).trans (Function.update_of_ne h _ a.mode)
  rw [hk]
  exact ha.mode k

theorem Device.foldRegion_mode_ne_off (h : k ≠ r) (hk : d.regions[k].mode ≠ .off) : (d.foldRegion reason r).regions[k].mode ≠ .off := by
  obtain e | ⟨-, e⟩ := Device.foldRegion_mode_of_ne (d := d) (reason := reason) h
  · rwa [e]
  · rw [e]; decide

theorem Device.foldRegion_mode_fold (h : k ≠ r) (hk : d.regions[k].mode = .fold) : (d.foldRegion reason r).regions[k].mode = .fold := by
  obtain e | ⟨e, -⟩ := Device.foldRegion_mode_of_ne (d := d) (reason := reason) h
  · rw [e, hk]
  · rw [hk] at e
    cases e

/-- One region Folds and then the other: each that was not Off is in Fold. -/
theorem Device.foldBoth_mode (hk : d.regions[k].mode ≠ .off) : ((d.foldRegion reason 0).foldRegion reason 1).regions[k].mode = .fold := by
  by_cases e : k = 0
  · subst e
    exact Device.foldRegion_mode_fold (by decide) (Device.foldRegion_mode_self hk)
  · obtain rfl : k = 1 := Fin.eq_one_of_ne_zero k e
    exact Device.foldRegion_mode_self (Device.foldRegion_mode_ne_off (by decide) hk)

end

/-! ### An epoch conflict (R336, R337) -/

theorem mapFrom_getElem {α : Type} (f : Nat → α → α) (i j : Nat) (l : List α) (hj : j < (mapFrom f i l).length) :
    (mapFrom f i l)[j] = f (i + j) (l[j]'(length_mapFrom f i l ▸ hj)) := by
  induction l generalizing i j with
  | nil => simp [mapFrom] at hj
  | cons x xs ih =>
    cases j with
    | zero => rfl
    | succ j => simp [mapFrom, ih, Nat.add_comm, Nat.add_left_comm]

theorem vmap_getElem {α : Type} {n : Nat} (f : Nat → α → α) (v : Vector α n) (j : Nat) (hj : j < n) : (vmap f v)[j] = f j v[j] := by
  simp [vmap, mapFrom_getElem]

section
variable (d : Device)

theorem Device.setDealer_standing (rec : DealerRec) (cause : VacateCause) :
    (d.setDealer rec cause).standing = { d.standing with dealer := rec, cause := cause } := by
  have hm (k : RegionIx) : (vmap (fun _ (x : Region) => if x.mode = .off then x else { x with dealer := rec }) d.regions)[k].mode =
      d.regions[k].mode := by
    rw [Fin.getElem_fin, vmap_getElem]
    split <;> rfl
  rw [Device.setDealer, Device.note_standing]
  simp only [Device.standing, hm]

theorem Device.vacate_standing (cause : VacateCause) : (d.vacate cause).standing =
    { d.standing with dealer := { session := 0, hostId := 0, priority := 0, cls := 0, epoch := d.nextEpoch }, cause := cause } := by
  have owed (e : Device) : ({ e with link := { e.link with readyOwed := true } } : Device).standing = e.standing := rfl
  rw [Device.vacate, owed, Device.setDealer_standing]

theorem Device.epochConflict_standing : d.epochConflict.standing =
    { ((d.foldRegion 5 0).foldRegion 5 1).standing with
        dealer := { session := 0, hostId := 0, priority := 0, cls := 0, epoch := d.nextEpoch }, cause := .epochConflict } := by
  rw [Device.epochConflict, Device.refreshMode_standing, Device.vacate_standing, Device.nextEpoch, Device.foldRegion_dealer,
    Device.foldRegion_dealer, Device.nextEpoch]

theorem Device.epochConflict_mode {k : RegionIx} (h : d.regions[k].mode ≠ .off) : d.epochConflict.regions[k].mode = .fold :=
  (Device.mode_of_standing d.epochConflict_standing k).trans (Device.foldBoth_mode h)

theorem Device.epochConflict_dealer : d.epochConflict.link.dealer =
    { session := 0, hostId := 0, priority := 0, cls := 0, epoch := d.nextEpoch } :=
  Device.dealer_of_standing d.epochConflict_standing

theorem Device.epochConflict_cause : d.epochConflict.link.vacateCause = .epochConflict :=
  Device.cause_of_standing d.epochConflict_standing

end

end Sys2Proof.Machine
end

section
/-!
SUPPORT. A write to a region whose copy of the Dealer record does not agree with the chip's (R337).
-/
namespace Sys2Proof.Machine

/-! ### Where a write goes -/

@[simp] theorem targetOf_idx (idx sub : Nat) : (targetOf idx sub).idx = idx := by
  have hRegion : 0x3000 ≤ idx → 0x3000 + 0x800 * ((idx - 0x3000) / 0x800) + (idx - 0x3000) % 0x800 = idx := by omega
  have hCell : 0x4000 ≤ idx → 0x4000 + 0x10 * ((idx - 0x4000) / 16) + idx % 16 = idx := by omega
  have hJoker : 0x4800 ≤ idx → 0x4800 + 0x10 * ((idx - 0x4800) / 16) + idx % 16 = idx := by omega
  by_cases h : 0x3000 ≤ idx ∧ idx < 0x4000
  · simp only [targetOf, placeOf, dif_pos h]
    split <;> exact hRegion h.1
  · by_cases hc : 0x4000 ≤ idx ∧ idx < 0x4800
    · simp only [targetOf, placeOf, dif_neg h, dif_pos hc]
      exact hCell hc.1
    · by_cases hj : 0x4800 ≤ idx ∧ idx < 0x4880
      · simp only [targetOf, placeOf, dif_neg h, dif_neg hc, dif_pos hj]
        exact hJoker hj.1
      · simp only [targetOf, placeOf, dif_neg h, dif_neg hc, dif_neg hj]
        rfl

@[simp] theorem targetOf_sub (idx sub : Nat) : (targetOf idx sub).sub = sub := by
  unfold targetOf
  split
  · rfl
  · split <;> rfl
  · rfl
  · rfl

/-! ### The refusal -/

/-- What a write leaves of the device where the region's copy of the Dealer record does not agree with the chip's (R337). -/
def Device.copyRefused (d : Device) (r : RegionIx) : Device :=
  match d.copyState r with
  | .same => d
  | .lower => d.raise (.region r) 13
  | .conflict => d.epochConflict

theorem Device.copyState_lower {d : Device} {r : RegionIx} (h : d.regions[r].dealer.epoch < d.link.dealer.epoch) :
    d.copyState r = .lower := if_pos h

theorem Device.copyState_conflict {d : Device} {r : RegionIx}
    (h : (d.regions[r].dealer.epoch = d.link.dealer.epoch ∧
      (d.regions[r].dealer.session ≠ d.link.dealer.session ∨ d.regions[r].dealer.hostId ≠ d.link.dealer.hostId)) ∨
      d.link.dealer.epoch < d.regions[r].dealer.epoch) : d.copyState r = .conflict := by
  have hl : ¬ d.regions[r].dealer.epoch < d.link.dealer.epoch := by omega
  have hs : ¬ (d.regions[r].dealer.epoch = d.link.dealer.epoch ∧ d.regions[r].dealer.session = d.link.dealer.session ∧
      d.regions[r].dealer.hostId = d.link.dealer.hostId) := by omega
  simp only [Device.copyState, if_neg hl, if_neg hs]

theorem Device.heard_dealerChecks_none {d : Device} {h : Hdr} {i : Fin 16} (hd : d.isDealer i = true) (hb : d.sec.life ≠ .blank) :
    firstRefusal ((d.heard i h).dealerChecks i) = none := by
  simp [Device.dealerChecks, hd, hb]

/-- A write that no rule of access refuses is answered by the region's copy before any rule of state or value is looked at. -/
theorem Device.tryWrite_copyRefused {d : Device} {t : Target} {w : Data} {access : List Check} {m : WSpec} {r : RegionIx}
    (ha : firstRefusal (access ++ m.access) = none) (ht : t.region = some r) (hc : d.copyState r ≠ .same) :
    d.tryWrite t w access m = (d.copyRefused r, some (.error { code := 4, reason := 5 } t.idx t.sub)) := by
  cases hs : d.copyState r with
  | same => exact absurd hs hc
  | lower => simp [Device.tryWrite, Device.copyRefused, ha, ht, hs]
  | conflict => simp [Device.tryWrite, Device.copyRefused, ha, ht, hs]

section
variable {s : State} {h : Hdr} {i : Fin 16} {r : RegionIx} {w : Data}

/-! ### The rows -/

theorem exec_runStart {v : BitVec 32} : exec (.runStart h r v) s =
    onDev s fun d => d.writeReg h (regionTarget r 0 0) { len := 4, val := v.toNat } fun _ => specRunCtl r v.toNat := rfl

theorem exec_pathRequestWrite {c : CellIx} : exec (.pathRequestWrite h c w) s =
    onDev s fun d => d.writeReg h (cellTarget c 0 1) w fun _ => specPathRequest c w.val := rfl

theorem exec_write {idx sub : Nat} : exec (.write h idx sub w) s = onDev s fun d => d.writeMsg h idx sub w := rfl

/-! ### Each row from the Dealer, where the copy does not agree -/

variable (hh : Heard s.dev h i) (hd : s.dev.isDealer i = true) (hb : s.dev.sec.life ≠ .blank) (hc : s.dev.copyState r ≠ .same)
include hh hd hb hc

/-- A row that writes a register of a region is refused as the region's copy says, whatever is written. -/
theorem gives_copyRefused {c : Instr} {t : Target} {spec : Fin 16 → Device → WSpec}
    (he : exec c s = onDev s fun d => d.writeReg h t w spec) (ht : t.region = some r)
    (ha : firstRefusal (spec i (s.dev.heard i h)).access = none) :
    Gives c s (((s.dev.heard i h).copyRefused r).refuses i h 4 5 t.idx t.sub) := by
  have ha' := (firstRefusal_append_none _ _).mpr ⟨Device.heard_dealerChecks_none (h := h) hd hb, ha⟩
  have hc' : (s.dev.heard i h).copyState r ≠ .same := by simpa using hc
  rw [Gives, he, onDev, Device.writeReg, Device.receive_heard hh]
  simp only [Device.tryWrite_copyRefused ha' ht hc']
  rfl

/-- A Write by index and subindex is refused so too: UnlockToken, which is tried apart, lies in no region (R428). -/
theorem write_copyRefused {idx sub : Nat} {o : Obj} {m : WSpec} (ht : (targetOf idx sub).region = some r)
    (hdom : domainAt idx = none) (ho : (s.dev.heard i h).objectAt idx = some o) (hy : ∃ y ∈ o.entries, y.sub = sub)
    (hm : (s.dev.heard i h).specAt (sessNo i) ((s.dev.heard i h).isSecure i h) idx sub w.val = some m)
    (ha : firstRefusal m.access = none) :
    Gives (.write h idx sub w) s (((s.dev.heard i h).copyRefused r).refuses i h 4 5 idx sub) := by
  have ha' := (firstRefusal_append_none _ _).mpr ⟨Device.heard_dealerChecks_none (h := h) hd hb, ha⟩
  have hc' : (s.dev.heard i h).copyState r ≠ .same := by simpa using hc
  have htok : ¬ (idx = 0x2220 ∧ sub = 4) := by
    rintro ⟨rfl, rfl⟩
    cases ht
  have hent : (o.entries.any fun e => decide (e.sub = sub)) = true := by simpa using hy
  have hw : (s.dev.heard i h).hostWrite h i idx sub w =
      ((s.dev.heard i h).copyRefused r, some (.error { code := 4, reason := 5 } idx sub)) := by
    simp only [Device.hostWrite, hdom, ho, hent, hm, if_neg htok, Device.tryWrite_copyRefused ha' ht hc', targetOf_idx, targetOf_sub]
    rfl
  rw [Gives, exec_write, onDev, Device.writeMsg, Device.receive_heard hh, hw]
  rfl

theorem entryIndexWrite_copyRefused :
    Gives (.entryIndexWrite h r w) s (((s.dev.heard i h).copyRefused r).refuses i h 4 5 (regionBase r + 0x10) 2) :=
  gives_copyRefused (t := regionTarget r 0x10 2) hh hd hb hc exec_entryIndexWrite rfl rfl

theorem runStart_copyRefused {v : BitVec 32} :
    Gives (.runStart h r v) s (((s.dev.heard i h).copyRefused r).refuses i h 4 5 (regionBase r) 0) :=
  gives_copyRefused (t := regionTarget r 0 0) hh hd hb hc exec_runStart rfl rfl

theorem pathRequestWrite_copyRefused {c : CellIx} (hr : cellRegion c = r) :
    Gives (.pathRequestWrite h c w) s (((s.dev.heard i h).copyRefused r).refuses i h 4 5 (cellBase c) 1) :=
  gives_copyRefused (t := cellTarget c 0 1) hh hd hb hc exec_pathRequestWrite (congrArg some hr) rfl

end

/-- Settles O10: each of the four writes asks the region's copy of the Dealer record after its rules of access and before any other,
so each is refused as the copy says. Both Folds leave every region that was not Off in Fold, a run in progress or not: only the end of
a run moves a mode beside them, and only from Run to Ready. -/
theorem regionCopiesGuardWrites : Obligations.RegionCopiesGuardWrites := by
  intro s h i r c w v d x copy refused hh hd hb
  have hx : x.copyState r = d.copyState r := Device.heard_copyState _ _ _ _
  have refused_of (hc : d.copyState r ≠ .same) : refused (x.copyRefused r) :=
    ⟨entryIndexWrite_copyRefused hh hd hb hc, runStart_copyRefused hh hd hb hc, pathRequestWrite_copyRefused hh hd hb hc,
      fun _ _ _ _ => write_copyRefused hh hd hb hc⟩
  refine ⟨fun hl => ?_, fun hk => ?_⟩
  · have hs := Device.copyState_lower hl
    have hr := refused_of (by rw [hs]; decide)
    rwa [Device.copyRefused, hx, hs] at hr
  · have hs := Device.copyState_conflict hk
    have hr := refused_of (by rw [hs]; decide)
    rw [Device.copyRefused, hx, hs] at hr
    refine ⟨hr, fun k hoff _ => x.epochConflict_mode ?_, ?_, ?_, x.epochConflict_cause⟩
    · simpa [x] using hoff
    · rw [x.epochConflict_dealer]
    · rw [x.epochConflict_dealer]
      simp [x, Device.nextEpoch, d]

end Sys2Proof.Machine
end
